-- ==== Sys2Proof/Word.lean ====
section
/-! DEFINITION. The value types of 00_scope.md R6 and R11: every value is an unsigned bit vector. -/

namespace Sys2Proof

/-- u16: a block half, a round key, a key word, a register (R6: HW, KW and DW are 16). -/
abbrev Word := BitVec 16

/-- One byte of the carrier in which a transaction word is handed to the decoder. -/
abbrev Byte := BitVec 8

/-- u4: a nibble lane (R6: NIB is 4). -/
abbrev Nibble := BitVec 4

/-- The register index of the host bus (R6: AW is 4; R42). -/
abbrev Index := BitVec 4

/-- u6: the counters RC, KP, KEYLEN and the selector RKSEL (R23, R24, R30, R39). -/
abbrev Count := BitVec 6

/-- The 21-bit transaction word TX (R80). -/
abbrev Tx := BitVec 21

/-- A 36-word register file: MK (R29) or RK (R31). ROUNDS and MAXKEY are both 36 (R6). -/
abbrev KeyFile := Vector Word 36

/-- A block `(h0, h1)`, an ordered pair of u16 (R11). -/
structure Block where
  h0 : Word
  h1 : Word
  deriving DecidableEq, Repr

end Sys2Proof
end

