-- ==== Sys2Proof/Syntax.lean ====
section
/-! DEFINITION. The instructions: one constructor per row of spec/opcode_table.json, in its order.
An instruction of this engine is a host transaction (30_encoding.md R80, R81). -/

namespace Sys2Proof

/-- A host transaction. A write carries its data `d`; a read carries none, because D is no part of
a read (R80). -/
inductive Instr where
  | nop
  | keyClear
  | keyCommit
  | encrypt
  | decrypt
  | cmdIllegal (d : Word)
  | wrStatus (d : Word)
  | wrConfig (d : Word)
  | wrKeyin (d : Word)
  | wrKeylen (d : Word)
  | wrDin0 (d : Word)
  | wrDin1 (d : Word)
  | wrDout0 (d : Word)
  | wrDout1 (d : Word)
  | wrRksel (d : Word)
  | wrRkdata (d : Word)
  | wrRounds (d : Word)
  | wrRsvdC (d : Word)
  | wrRsvdD (d : Word)
  | wrRsvdE (d : Word)
  | wrRsvdF (d : Word)
  | rdCmd
  | rdStatus
  | rdConfig
  | rdKeyin
  | rdKeylen
  | rdDin0
  | rdDin1
  | rdDout0
  | rdDout1
  | rdRksel
  | rdRkdata
  | rdRounds
  | rdRsvdC
  | rdRsvdD
  | rdRsvdE
  | rdRsvdF
  deriving DecidableEq, Repr

end Sys2Proof
end

