-- ==== Sys2Proof/WellFormed.lean ====
section
/-! DEFINITION. Which instructions are well-formed. -/

namespace Sys2Proof

/-- The one check a transaction's fields need: CMD_ILLEGAL stands for a CMD write whose D is not
0x0000 to 0x0004 (43_host_access.md R171); those five words are the five commands (R83). -/
def Instr.wf : Instr → Bool
  | .nop => true
  | .keyClear => true
  | .keyCommit => true
  | .encrypt => true
  | .decrypt => true
  | .cmdIllegal d => d != 0x0000 && d != 0x0001 && d != 0x0002 && d != 0x0003 && d != 0x0004
  | .wrStatus _ => true
  | .wrConfig _ => true
  | .wrKeyin _ => true
  | .wrKeylen _ => true
  | .wrDin0 _ => true
  | .wrDin1 _ => true
  | .wrDout0 _ => true
  | .wrDout1 _ => true
  | .wrRksel _ => true
  | .wrRkdata _ => true
  | .wrRounds _ => true
  | .wrRsvdC _ => true
  | .wrRsvdD _ => true
  | .wrRsvdE _ => true
  | .wrRsvdF _ => true
  | .rdCmd => true
  | .rdStatus => true
  | .rdConfig => true
  | .rdKeyin => true
  | .rdKeylen => true
  | .rdDin0 => true
  | .rdDin1 => true
  | .rdDout0 => true
  | .rdDout1 => true
  | .rdRksel => true
  | .rdRkdata => true
  | .rdRounds => true
  | .rdRsvdC => true
  | .rdRsvdD => true
  | .rdRsvdE => true
  | .rdRsvdF => true

end Sys2Proof
end

