-- ==== Sys2Proof/Decode.lean ====
section
/-! DEFINITION. The decoder and the encoder of 30_encoding.md (R80 to R87), and the opcode table itself. -/

namespace Sys2Proof

/-! ## The fields of TX (R80) -/

/-- W, bit 20: 1 is a write. -/
def txWrite (w : Tx) : Bool := w.getLsbD 20

/-- A, bits 19:16: the register index. -/
def txIndex (w : Tx) : Index := w.extractLsb' 16 4

/-- D, bits 15:0: the write data. -/
def txData (w : Tx) : Word := w.extractLsb' 0 16

/-- The TX word of a write of `v` to index `a` (R81, BUS-W). -/
def txOfWrite (a : Index) (v : Word) : Tx := 1#1 ++ a ++ v

/-- The canonical TX word of a read of index `a` (R81, BUS-R; R80: D is 0). -/
def txOfRead (a : Index) : Tx := 0#1 ++ a ++ 0#16

/-! ## The decoder -/

/-- A write to index 0x0 is a command (R81); the five legal words come first, every other word is
CMD_ILLEGAL (R83, R87). -/
def decodeCmd (d : Word) : Instr :=
  if d = 0x0000 then .nop
  else if d = 0x0001 then .keyClear
  else if d = 0x0002 then .keyCommit
  else if d = 0x0003 then .encrypt
  else if d = 0x0004 then .decrypt
  else .cmdIllegal d

/-- BUS-W: a write of `d` to index `a` (R64, R81). -/
def decodeWrite (a : Index) (d : Word) : Instr :=
  match a.toNat with
  | 0x0 => decodeCmd d
  | 0x1 => .wrStatus d
  | 0x2 => .wrConfig d
  | 0x3 => .wrKeyin d
  | 0x4 => .wrKeylen d
  | 0x5 => .wrDin0 d
  | 0x6 => .wrDin1 d
  | 0x7 => .wrDout0 d
  | 0x8 => .wrDout1 d
  | 0x9 => .wrRksel d
  | 0xA => .wrRkdata d
  | 0xB => .wrRounds d
  | 0xC => .wrRsvdC d
  | 0xD => .wrRsvdD d
  | 0xE => .wrRsvdE d
  | _ => .wrRsvdF d

/-- BUS-R: a read of index `a` (R63, R81). D is ignored (R80). -/
def decodeRead (a : Index) : Instr :=
  match a.toNat with
  | 0x0 => .rdCmd
  | 0x1 => .rdStatus
  | 0x2 => .rdConfig
  | 0x3 => .rdKeyin
  | 0x4 => .rdKeylen
  | 0x5 => .rdDin0
  | 0x6 => .rdDin1
  | 0x7 => .rdDout0
  | 0x8 => .rdDout1
  | 0x9 => .rdRksel
  | 0xA => .rdRkdata
  | 0xB => .rdRounds
  | 0xC => .rdRsvdC
  | 0xD => .rdRsvdD
  | 0xE => .rdRsvdE
  | _ => .rdRsvdF

/-- The instruction of a transaction word: total on all 2^21 words (R87). -/
def decodeTx (w : Tx) : Instr :=
  if txWrite w then decodeWrite (txIndex w) (txData w) else decodeRead (txIndex w)

/-- Why bytes on the bus are no transaction (60_exceptions.md R218, I12). -/
inductive DecodeError where
  /-- Not the three bytes that carry one TX word: nothing, or more than one transaction in a cycle. -/
  | wrongLength
  /-- A bit above bit 20 is set: an index or a datum wider than its port. -/
  | tooWide
  deriving DecidableEq, Repr

/-- The TX word carried by three bytes, least significant first. DESIGN CHOICE, safe (log 6): TX is
a name for the port signals (R80), and this carrier of it is the model's. -/
def txOfBytes (b0 b1 b2 : Byte) : Tx := b2.extractLsb' 0 5 ++ b1 ++ b0

/-- The decoder: total on any bytes, refusing by name what no TX word can express (R218, I12). -/
def decode : List Byte → Except DecodeError Instr
  | [b0, b1, b2] =>
    if b2.extractLsb' 5 3 = 0 then .ok (decodeTx (txOfBytes b0 b1 b2)) else .error .tooWide
  | _ => .error .wrongLength

/-! ## The encoder -/

/-- The canonical TX word of an instruction (R80, R83 and the rules of the rows). -/
def encode : Instr → Tx
  | .nop => 0x100000
  | .keyClear => 0x100001
  | .keyCommit => 0x100002
  | .encrypt => 0x100003
  | .decrypt => 0x100004
  | .cmdIllegal d => 0x10#5 ++ d
  | .wrStatus d => 0x11#5 ++ d
  | .wrConfig d => 0x12#5 ++ d
  | .wrKeyin d => 0x13#5 ++ d
  | .wrKeylen d => 0x14#5 ++ d
  | .wrDin0 d => 0x15#5 ++ d
  | .wrDin1 d => 0x16#5 ++ d
  | .wrDout0 d => 0x17#5 ++ d
  | .wrDout1 d => 0x18#5 ++ d
  | .wrRksel d => 0x19#5 ++ d
  | .wrRkdata d => 0x1A#5 ++ d
  | .wrRounds d => 0x1B#5 ++ d
  | .wrRsvdC d => 0x1C#5 ++ d
  | .wrRsvdD d => 0x1D#5 ++ d
  | .wrRsvdE d => 0x1E#5 ++ d
  | .wrRsvdF d => 0x1F#5 ++ d
  | .rdCmd => 0x000000
  | .rdStatus => 0x010000
  | .rdConfig => 0x020000
  | .rdKeyin => 0x030000
  | .rdKeylen => 0x040000
  | .rdDin0 => 0x050000
  | .rdDin1 => 0x060000
  | .rdDout0 => 0x070000
  | .rdDout1 => 0x080000
  | .rdRksel => 0x090000
  | .rdRkdata => 0x0A0000
  | .rdRounds => 0x0B0000
  | .rdRsvdC => 0x0C0000
  | .rdRsvdD => 0x0D0000
  | .rdRsvdE => 0x0E0000
  | .rdRsvdF => 0x0F0000

/-- The three bytes of a TX word, least significant first (log 6). -/
def bytesOfTx (w : Tx) : List Byte :=
  [w.extractLsb' 0 8, w.extractLsb' 8 8, (w.extractLsb' 16 5).setWidth 8]

/-- The bytes the bus carries for an instruction. -/
def encodeBytes (i : Instr) : List Byte := bytesOfTx (encode i)

/-! ## The opcode table (R87) -/

/-- One row of spec/opcode_table.json: a TX word is the row's when its bits under `mask` are `value`. -/
structure TableRow where
  mnemonic : String
  value : Tx
  mask : Tx
  deriving DecidableEq, Repr

/-- Whether a TX word has a row's bits. -/
def TableRow.matches (row : TableRow) (w : Tx) : Bool := w &&& row.mask = row.value

/-- The rows of writes to index 0x0, the five exact ones before the fallback. -/
def commandRows : List TableRow :=
  [ ⟨"NOP", 0x100000, 0x1FFFFF⟩,
    ⟨"KEY_CLEAR", 0x100001, 0x1FFFFF⟩,
    ⟨"KEY_COMMIT", 0x100002, 0x1FFFFF⟩,
    ⟨"ENCRYPT", 0x100003, 0x1FFFFF⟩,
    ⟨"DECRYPT", 0x100004, 0x1FFFFF⟩,
    ⟨"CMD_ILLEGAL", 0x100000, 0x1F0000⟩ ]

/-- The rows of writes to the other indices. -/
def writeRows : List TableRow :=
  [ ⟨"WR_STATUS", 0x110000, 0x1F0000⟩,
    ⟨"WR_CONFIG", 0x120000, 0x1F0000⟩,
    ⟨"WR_KEYIN", 0x130000, 0x1F0000⟩,
    ⟨"WR_KEYLEN", 0x140000, 0x1F0000⟩,
    ⟨"WR_DIN0", 0x150000, 0x1F0000⟩,
    ⟨"WR_DIN1", 0x160000, 0x1F0000⟩,
    ⟨"WR_DOUT0", 0x170000, 0x1F0000⟩,
    ⟨"WR_DOUT1", 0x180000, 0x1F0000⟩,
    ⟨"WR_RKSEL", 0x190000, 0x1F0000⟩,
    ⟨"WR_RKDATA", 0x1A0000, 0x1F0000⟩,
    ⟨"WR_ROUNDS", 0x1B0000, 0x1F0000⟩,
    ⟨"WR_RSVD_C", 0x1C0000, 0x1F0000⟩,
    ⟨"WR_RSVD_D", 0x1D0000, 0x1F0000⟩,
    ⟨"WR_RSVD_E", 0x1E0000, 0x1F0000⟩,
    ⟨"WR_RSVD_F", 0x1F0000, 0x1F0000⟩ ]

/-- The rows of reads. -/
def readRows : List TableRow :=
  [ ⟨"RD_CMD", 0x000000, 0x1F0000⟩,
    ⟨"RD_STATUS", 0x010000, 0x1F0000⟩,
    ⟨"RD_CONFIG", 0x020000, 0x1F0000⟩,
    ⟨"RD_KEYIN", 0x030000, 0x1F0000⟩,
    ⟨"RD_KEYLEN", 0x040000, 0x1F0000⟩,
    ⟨"RD_DIN0", 0x050000, 0x1F0000⟩,
    ⟨"RD_DIN1", 0x060000, 0x1F0000⟩,
    ⟨"RD_DOUT0", 0x070000, 0x1F0000⟩,
    ⟨"RD_DOUT1", 0x080000, 0x1F0000⟩,
    ⟨"RD_RKSEL", 0x090000, 0x1F0000⟩,
    ⟨"RD_RKDATA", 0x0A0000, 0x1F0000⟩,
    ⟨"RD_ROUNDS", 0x0B0000, 0x1F0000⟩,
    ⟨"RD_RSVD_C", 0x0C0000, 0x1F0000⟩,
    ⟨"RD_RSVD_D", 0x0D0000, 0x1F0000⟩,
    ⟨"RD_RSVD_E", 0x0E0000, 0x1F0000⟩,
    ⟨"RD_RSVD_F", 0x0F0000, 0x1F0000⟩ ]

/-- The whole table, in its order. -/
def opcodeRows : List TableRow := commandRows ++ writeRows ++ readRows

/-- The mnemonic of the row an instruction belongs to. -/
def Instr.mnemonic : Instr → String
  | .nop => "NOP"
  | .keyClear => "KEY_CLEAR"
  | .keyCommit => "KEY_COMMIT"
  | .encrypt => "ENCRYPT"
  | .decrypt => "DECRYPT"
  | .cmdIllegal _ => "CMD_ILLEGAL"
  | .wrStatus _ => "WR_STATUS"
  | .wrConfig _ => "WR_CONFIG"
  | .wrKeyin _ => "WR_KEYIN"
  | .wrKeylen _ => "WR_KEYLEN"
  | .wrDin0 _ => "WR_DIN0"
  | .wrDin1 _ => "WR_DIN1"
  | .wrDout0 _ => "WR_DOUT0"
  | .wrDout1 _ => "WR_DOUT1"
  | .wrRksel _ => "WR_RKSEL"
  | .wrRkdata _ => "WR_RKDATA"
  | .wrRounds _ => "WR_ROUNDS"
  | .wrRsvdC _ => "WR_RSVD_C"
  | .wrRsvdD _ => "WR_RSVD_D"
  | .wrRsvdE _ => "WR_RSVD_E"
  | .wrRsvdF _ => "WR_RSVD_F"
  | .rdCmd => "RD_CMD"
  | .rdStatus => "RD_STATUS"
  | .rdConfig => "RD_CONFIG"
  | .rdKeyin => "RD_KEYIN"
  | .rdKeylen => "RD_KEYLEN"
  | .rdDin0 => "RD_DIN0"
  | .rdDin1 => "RD_DIN1"
  | .rdDout0 => "RD_DOUT0"
  | .rdDout1 => "RD_DOUT1"
  | .rdRksel => "RD_RKSEL"
  | .rdRkdata => "RD_RKDATA"
  | .rdRounds => "RD_ROUNDS"
  | .rdRsvdC => "RD_RSVD_C"
  | .rdRsvdD => "RD_RSVD_D"
  | .rdRsvdE => "RD_RSVD_E"
  | .rdRsvdF => "RD_RSVD_F"

/-! ## The host's numbering of a row's bits -/

/-- The low `n` bytes of a number, least significant first. -/
def bytesOfNat (n w : Nat) : List Byte := (List.range n).map fun i => BitVec.ofNat 8 (w >>> (8 * i))

/-- The bytes that carry an instruction given as `nbits` bits of `w`; bits above `nbits` are 0, up to
the three bytes every transaction has. -/
def fetchBytes (nbits w : Nat) : List Byte := bytesOfNat (max 3 ((nbits + 7) / 8)) (w % 2 ^ nbits)

/-- What the decoder reads from an instruction whose `nbits` bits are `w`. -/
def decodeTableWord (nbits w : Nat) : Option Instr := (decode (fetchBytes nbits w)).toOption

end Sys2Proof
end

