-- ==== Sys2Proof/Machine/State.lean ====
section
/-! DEFINITION. The state of the machine (10_state.md R20), its reset value (R44) and the reasons a step can stop. -/

namespace Sys2Proof.Machine

/-- OP, the engine's operation state (R25). -/
inductive Op where
  | idle
  | enc
  | dec
  | commit
  deriving DecidableEq, Repr

/-- The errors an engine records (60_exceptions.md R200). They are outcomes of a transaction, not
faults of the model (R218). -/
inductive ErrorCode where
  | invalidArgument
  | noKey
  | illegalCmd
  | busy
  deriving DecidableEq, Repr

/-- What the block's input ports carry in one clock cycle (20_memory.md R62), and whether the engine
is held back in it. -/
structure PortInput where
  /-- The `rst` input (R230). -/
  rst : Bool := false
  /-- The transaction present when `sel = 1`, as the bytes of its TX word (R80); `none` is `sel = 0`. -/
  tx : Option (List Byte) := none
  /-- The engine takes no step in this cycle even though OP is not IDLE. DESIGN CHOICE, safe (log 4):
  always false is the reference timing of R246; any other pattern is an interleaving of R71. -/
  stall : Bool := false
  deriving DecidableEq, Repr

/-- The machine's state: the fields of R20, then two of the model's own for the block's ports. -/
structure State where
  /-- L (R21). -/
  l : Word
  /-- R (R22). -/
  r : Word
  /-- RC (R23). -/
  rc : Count
  /-- KP (R24). -/
  kp : Count
  /-- OP (R25). -/
  op : Op
  /-- MK[0..35] (R29). -/
  mkey : KeyFile
  /-- KEYLEN (R30). -/
  keylen : Count
  /-- RK[0..35] (R31). -/
  rkey : KeyFile
  /-- KEYVALID (R32). -/
  keyvalid : Bool
  /-- DIN0 (R33). -/
  din0 : Word
  /-- DIN1 (R33). -/
  din1 : Word
  /-- DOUT0 (R34). -/
  dout0 : Word
  /-- DOUT1 (R34). -/
  dout1 : Word
  /-- IE (R35). -/
  ie : Bool
  /-- DONE (R37). -/
  done : Bool
  /-- ERR (R38). -/
  err : Bool
  /-- ERRCODE (R38). -/
  errcode : BitVec 4
  /-- RKSEL (R39). -/
  rksel : Count
  /-- The model's own: the `rdata` port in the cycle just executed (R62). DESIGN CHOICE, safe (log 5). -/
  rdata : Word
  /-- The model's own: what the ports carry in the coming cycles, oldest first; after the last entry
  nothing is driven. DESIGN CHOICE, safe (logs 3 and 4). -/
  bus : List PortInput
  deriving DecidableEq, Repr

/-- The reasons the model stops that are faults. The spec gives the engine no stuck state (R218). -/
inductive Fault where
  /-- Raised by an engine step whose RC or KP (the argument) names no entry of a 36-word file. R43
  item 4 rules it out in every reachable state. Safe (log 7): the model stops. -/
  | noSuchEntry (index : Count)
  deriving DecidableEq, Repr

/-- The reasons the model gives an instruction no meaning. -/
inductive Refusal where
  /-- Raised by an arm of exec whose instruction has no meaning yet. Safe: the model stops. -/
  | notModelled (mnemonic : String)
  /-- Raised by the fetch of a cycle without `rst` whose bus bytes are no transaction (R218, I12). Safe: the model
  stops. -/
  | notATransaction (why : DecodeError)
  deriving DecidableEq, Repr

/-- The state right after reset (R44). L, R, RC, KP, MK and RK are unspecified there; they are zero
here, DESIGN CHOICE, unsafe (log 2). -/
def State.reset : State where
  l := 0
  r := 0
  rc := 0
  kp := 0
  op := .idle
  mkey := Vector.replicate 36 0
  keylen := 0
  rkey := Vector.replicate 36 0
  keyvalid := false
  din0 := 0
  din1 := 0
  dout0 := 0
  dout1 := 0
  ie := false
  done := false
  err := false
  errcode := 0
  rksel := 0
  rdata := 0
  bus := []

end Sys2Proof.Machine
end

