-- ==== Sys2Proof/Machine/Flags.lean ====
section
/-! DEFINITION. Every flag the spec computes: BUSY, STATUS, the error codes, irq. -/

namespace Sys2Proof.Machine

/-- BUSY = (OP != IDLE) (R26). -/
def State.busy (s : State) : Bool := s.op != .idle

/-- The code an error records in ERRCODE (R200). -/
def ErrorCode.bits : ErrorCode → BitVec 4
  | .invalidArgument => 1
  | .noKey => 2
  | .illegalCmd => 3
  | .busy => 4

/-- STATUS, assembled from state when read (R36, R181):
zext_16( ERRCODE[3:0] ++ ERR ++ KEYVALID ++ DONE ++ BUSY ). -/
def State.statusWord (s : State) : Word :=
  (s.errcode ++ BitVec.ofBool s.err ++ BitVec.ofBool s.keyvalid ++ BitVec.ofBool s.done
    ++ BitVec.ofBool s.busy).setWidth 16

/-- The interrupt output irq = IE & (DONE | ERR), a level and not state (R41, R207). -/
def State.irq (s : State) : Bool := s.ie && (s.done || s.err)

end Sys2Proof.Machine
end

