-- ==== Sys2Proof/Machine/Operands.lean ====
section
/-! DEFINITION. Every operand form: the fields a write takes from D (30_encoding.md R82, R85) and the
zero-extended values a read returns (43_host_access.md R180 to R186). -/

namespace Sys2Proof.Machine

/-! ## Fields of D -/

/-- OPC, D[3:0] of a CMD write (R82). -/
def cmdOpcode (d : Word) : BitVec 4 := d.extractLsb' 0 4

/-- RSV, D[15:4] of a CMD write, which must be 0 (R82). -/
def cmdReserved (d : Word) : BitVec 12 := d.extractLsb' 4 12

/-- The legality check of R84: RSV is 0 and OPC is at most 4. -/
def cmdLegal (d : Word) : Bool := cmdReserved d = 0 && decide ((cmdOpcode d).toNat ≤ 4)

/-- CONFIG: IE takes D[0] (R85, R173). -/
def configEnable (d : Word) : Bool := d.getLsbD 0

/-- STATUS: D[1] clears DONE (R85, R172). -/
def statusClearsDone (d : Word) : Bool := d.getLsbD 1

/-- STATUS: D[3] clears ERR and ERRCODE (R85, R172). -/
def statusClearsErr (d : Word) : Bool := d.getLsbD 3

/-- RKSEL takes D[5:0] (R85, R176). -/
def selectorOf (d : Word) : Count := d.extractLsb' 0 6

/-! ## Values read -/

/-- CONFIG reads zext_16(IE) (R182). -/
def State.configWord (s : State) : Word := (BitVec.ofBool s.ie).setWidth 16

/-- KEYLEN reads zext_16(KEYLEN) (R185). -/
def State.keylenWord (s : State) : Word := s.keylen.setWidth 16

/-- RKSEL reads zext_16(RKSEL) (R185). -/
def State.rkselWord (s : State) : Word := s.rksel.setWidth 16

/-- RKDATA reads RK[RKSEL] when KEYVALID = 1 and RKSEL is at most 35, and 0 otherwise (R183). -/
def State.rkdataWord (s : State) : Word :=
  if s.keyvalid then
    match s.rkey[s.rksel.toNat]? with
    | some k => k
    | none => 0
  else 0

/-- ROUNDS reads the constant 0x0024 (R40, R186). -/
def roundsWord : Word := 0x0024

/-- The words of the master-key buffer in use, MK[0..KEYLEN-1] (R29). -/
def State.keyWords (s : State) : List Word := s.mkey.toList.take s.keylen.toNat

end Sys2Proof.Machine
end

