-- ==== Sys2Proof/Machine/Ops.lean ====
section
/-! DEFINITION. The named operations the meanings share: recording an error and returning from it,
admission, the key buffer, the starts of the three engine operations, the read port. -/

namespace Sys2Proof.Machine

/-! ## Errors: entry and return -/

/-- `raise Error(code)`, which is the engine's whole exception entry (60_exceptions.md R202, R208): the
code is recorded if ERR was 0, the first error is kept if it was 1, and nothing else changes. -/
def State.raiseError (c : ErrorCode) (s : State) : State :=
  { s with err := true, errcode := if s.err then s.errcode else c.bits }

/-- Return from an error, when `clears` holds: ERR and ERRCODE are cleared (R209, R172). -/
def State.clearError (clears : Bool) (s : State) : State :=
  { s with err := s.err && !clears, errcode := if clears then 0 else s.errcode }

/-! ## Flags -/

/-- DONE <- 1 (R37, R170). -/
def State.setDone (s : State) : State := { s with done := true }

/-- DONE <- 0, when `clears` holds (R172). -/
def State.clearDone (clears : Bool) (s : State) : State := { s with done := s.done && !clears }

/-! ## Admission -/

/-- The first check of a CMD or KEYIN write: while OP is not IDLE it raises BUSY and does nothing
else (30_encoding.md R84, 41_key_schedule.md R122, R204). -/
def State.whenIdle (act : State → State) (s : State) : State :=
  if s.busy then s.raiseError .busy else act s

/-! ## Key state -/

/-- Push one key word: MK[KEYLEN] <- d and KEYLEN <- KEYLEN + 1 while KEYLEN < 36; at 36 the word is
discarded (R122, R127). -/
def State.pushKey (d : Word) (s : State) : State :=
  if s.keylen < 36 then
    { s with mkey := s.mkey.setIfInBounds s.keylen.toNat d, keylen := s.keylen + 1 }
  else s

/-- KEYLEN <- 0, KEYVALID <- 0, DONE <- 1 (R121). -/
def State.clearKey (s : State) : State := { s with keylen := 0, keyvalid := false, done := true }

/-! ## The starts of the engine operations -/

/-- Accept of KEY_COMMIT (R124). -/
def State.startCommit (s : State) : State :=
  { s with keyvalid := false, rc := 0, kp := 0, op := .commit, done := false }

/-- Accept of ENCRYPT: L <- DIN0, R <- DIN1 (R140). -/
def State.startEncrypt (s : State) : State :=
  { s with l := s.din0, r := s.din1, rc := 0, op := .enc, done := false }

/-- Accept of DECRYPT: the halves are loaded crosswise (R141, R151). -/
def State.startDecrypt (s : State) : State :=
  { s with l := s.din1, r := s.din0, rc := 35, op := .dec, done := false }

/-! ## The read port -/

/-- The value of a read appears on `rdata` (R62, R63); no state of the engine changes (R66). -/
def State.readOut (v : Word) (s : State) : State := { s with rdata := v }

end Sys2Proof.Machine
end

