-- ==== Sys2Proof/Config.lean ====
section
/-! DEFINITION. What an implementation fixes: the OPEN parameters of 92_eei_decisions.md section 1. -/

namespace Sys2Proof

/-- The two tables the engine is built with (R6): the S-box ROM and the permutation wiring.
`perm i` is the output bit that input bit `i` moves to (R103). -/
structure Tables where
  sbox : Fin 16 → Fin 16
  perm : Fin 16 → Fin 16

/-- Well-formed tables (R7, R8): each is a bijection of 0..15. -/
structure Tables.WellFormed (t : Tables) : Prop where
  sbox_injective : Function.Injective t.sbox
  perm_injective : Function.Injective t.perm

/-- OPEN parameter SBOX (R6, R7, D36). DESIGN CHOICE, safe (log 1): a bijection with no body, so
nothing can be proved of its values. -/
opaque Config.sbox : Equiv.Perm (Fin 16)

/-- OPEN parameter PERM (R6, R8, D37). DESIGN CHOICE, safe (log 1): a bijection with no body. -/
opaque Config.perm : Equiv.Perm (Fin 16)

/-- The tables of the machine itself. -/
def Config.tables : Tables := { sbox := Config.sbox, perm := Config.perm }

/-- The two ways a byte-addressed bus can lay a 16-bit word into bytes. -/
inductive ByteOrder where
  | little
  | big
  deriving DecidableEq, Repr, Inhabited

/-- OPEN parameter BASE (R65, D7, I14): where the platform puts the register window. No rule of the
engine reads it (log 8). -/
opaque Config.base : Nat

/-- OPEN parameter BUS_BYTE_ORDER (R65, D7, I14). No rule of the engine reads it (log 8). -/
opaque Config.busByteOrder : ByteOrder

/-- OPEN parameter IRQ_ROUTE (R207, D12, I14): the platform's name for where irq goes. No rule of the
engine reads it (log 8). -/
opaque Config.irqRoute : Nat

end Sys2Proof
end

