-- ==== Sys2Proof/Machine/Transform.lean ====
section
/-! DEFINITION. The six pure functions of 00_scope.md R13, over any tables: Sub, Perm, F (40_datapath.md),
KS (41_key_schedule.md), Enc, Dec (42_feistel.md). -/

namespace Sys2Proof.Machine

/-! ## The round datapath -/

/-- One S-box lookup, SBOX[n] for a u4 n (R12). -/
def sboxLookup (t : Tables) (n : Nibble) : Nibble := BitVec.ofNat 4 (t.sbox n.toFin).val

/-- Sub, the nibble S-box layer: SBOX[x[15:12]] ++ SBOX[x[11:8]] ++ SBOX[x[7:4]] ++ SBOX[x[3:0]] (R100). -/
def subNibbles (t : Tables) (x : Word) : Word :=
  sboxLookup t (x.extractLsb' 12 4) ++ sboxLookup t (x.extractLsb' 8 4)
    ++ sboxLookup t (x.extractLsb' 4 4) ++ sboxLookup t (x.extractLsb' 0 4)

/-- Perm, the bit permutation: the OR over i of (x[i] << PERM[i]) (R102). PERM[i] is the destination
of source bit i (R103). -/
def permBits (t : Tables) (x : Word) : Word :=
  (List.finRange 16).foldl
    (fun y i => y ||| ((BitVec.ofBool (x.getLsbD i.val)).setWidth 16 <<< (t.perm i).val)) 0

/-- The round function F(x, k) = Perm(Sub(x)) ^ k (R104). -/
def roundF (t : Tables) (x k : Word) : Word := permBits t (subNibbles t x) ^^^ k

/-! ## The key schedule -/

/-- KS(MK, L): the round key at index i is MK[i mod L] (R120). An empty master key is outside its
domain. -/
def keySchedule (key : List Word) (h : key ≠ []) : KeyFile :=
  Vector.ofFn fun i => key[i.val % key.length]'(Nat.mod_lt _ (List.length_pos_iff.mpr h))

/-! ## The transform -/

/-- The final swap: (h0, h1) to (h1, h0) (R151, R156). -/
def swapHalves (b : Block) : Block := { h0 := b.h1, h1 := b.h0 }

/-- One round of Enc: (left, right) to (right, left ^ F(right, k)) (R145, R156). -/
def encRound (t : Tables) (k : Word) (b : Block) : Block :=
  { h0 := b.h1, h1 := b.h0 ^^^ roundF t b.h1 k }

/-- One round of Dec: (left, right) to (right ^ F(left, k), left) (R146). -/
def decRound (t : Tables) (k : Word) (b : Block) : Block :=
  { h0 := b.h1 ^^^ roundF t b.h0 k, h1 := b.h0 }

/-- Enc: rounds with RK[0] to RK[35], then the final swap (R145). -/
def encBlock (t : Tables) (rk : KeyFile) (b : Block) : Block :=
  swapHalves (rk.toList.foldl (fun b k => encRound t k b) b)

/-- Dec: the swap undone, then rounds with RK[35] to RK[0] (R146). -/
def decBlock (t : Tables) (rk : KeyFile) (b : Block) : Block :=
  rk.toList.reverse.foldl (fun b k => decRound t k b) (swapHalves b)

end Sys2Proof.Machine
end

