-- ==== Sys2Proof/Machine/Engine.lean ====
section
/-! DEFINITION. The engine step: one round of ENC or DEC (42_feistel.md R148), or one step of the cyclic
repeater (41_key_schedule.md R125). -/

namespace Sys2Proof.Machine

/-- The ENC engine step with round key `k` (R148); the step of RC = 35 is the last. -/
def State.encStep (t : Tables) (k : Word) (s : State) : State :=
  let b := encRound t k { h0 := s.l, h1 := s.r }
  if s.rc = 35 then
    { s with l := b.h0, r := b.h1, dout0 := b.h1, dout1 := b.h0, op := .idle, done := true }
  else { s with l := b.h0, r := b.h1, rc := s.rc + 1 }

/-- The DEC engine step with round key `k` (R148); the step of RC = 0 is the last. -/
def State.decStep (t : Tables) (k : Word) (s : State) : State :=
  let b := decRound t k { h0 := s.l, h1 := s.r }
  if s.rc = 0 then
    { s with l := b.h0, r := b.h1, dout0 := b.h0, dout1 := b.h1, op := .idle, done := true }
  else { s with l := b.h0, r := b.h1, rc := s.rc - 1 }

/-- The COMMIT engine step that writes `w` to RK[RC] (R125); the step of RC = 35 is the last. -/
def State.commitStep (w : Word) (s : State) : State :=
  let rkey := s.rkey.setIfInBounds s.rc.toNat w
  let kp := if s.kp + 1 = s.keylen then 0 else s.kp + 1
  if s.rc = 35 then { s with rkey := rkey, kp := kp, op := .idle, keyvalid := true, done := true }
  else { s with rkey := rkey, kp := kp, rc := s.rc + 1 }

/-- Entry `i` of a 36-word file, a fault where there is none (log 7). -/
def entry (file : KeyFile) (i : Count) (act : Word → State) : Host.Outcome State Fault Refusal :=
  match file[i.toNat]? with
  | some w => .next (act w)
  | none => .fault (.noSuchEntry i)

/-- One engine step: enabled while OP is not IDLE (R14, R148, R125), and no step otherwise. -/
def State.engineStep (t : Tables) (s : State) : Host.Outcome State Fault Refusal :=
  match s.op with
  | .idle => .next s
  | .enc => entry s.rkey s.rc fun k => s.encStep t k
  | .dec => entry s.rkey s.rc fun k => s.decStep t k
  | .commit =>
    match s.rkey[s.rc.toNat]? with
    | some _ => entry s.mkey s.kp fun w => s.commitStep w
    | none => .fault (.noSuchEntry s.rc)

end Sys2Proof.Machine
end

