-- ==== Sys2Proof/Machine/Cycle.lean ====
section
/-! DEFINITION. One clock cycle (20_memory.md R72, 70_reset_and_hazards.md R230): what the ports carry, the
transaction, the engine step, reset. The meaning of a transaction is an argument, so that Step.lean
only calls this. -/

namespace Sys2Proof.Machine

/-- What the ports carry in the coming cycle; nothing is driven after the last listed input. -/
def State.portInput (s : State) : PortInput := s.bus.headD {}

/-- The cycle begins: its input leaves the list, and `rdata` is 0 unless a read drives it (R62; DEDUCED,
log 5). -/
def State.beginCycle (s : State) : State := { s with rdata := 0, bus := s.bus.tail }

/-- The edge at which `rst` is sampled high (R230): every piece of state takes its reset value. The
inputs still to come are the host's, not the engine's (DESIGN CHOICE, safe, log 3). -/
def State.resetEdge (s : State) : State := { State.reset with bus := s.bus }

/-- The host's part of a cycle: no transaction, or the one the bytes decode to; bytes that are no
transaction are refused (R218, I12). -/
def hostPart (run : Instr → State → Host.Outcome State Fault Refusal) (tx : Option (List Byte)) (s : State) :
    Host.Outcome State Fault Refusal :=
  match tx with
  | none => .next s
  | some bytes =>
    match decode bytes with
    | .ok i => run i s
    | .error why => .refused (.notATransaction why)

/-- The engine's part of a cycle: a step if OP was not IDLE at the start of the cycle (R72) and the
engine is not held back (log 4). -/
def enginePart (t : Tables) (atStart : Op) (stall : Bool) (s : State) : Host.Outcome State Fault Refusal :=
  if atStart = .idle ∨ stall then .next s else s.engineStep t

/-- One clock cycle: reset wins (R230); otherwise the transaction and then the engine step, to which
the simultaneous cycle of R72 is equal (DEDUCED, safe, log 9). A cycle with `rst` takes no account of
what else its input carries, so bytes that are no transaction are not refused in it (DESIGN CHOICE, safe,
log 14). -/
def runCycle (t : Tables) (run : Instr → State → Host.Outcome State Fault Refusal) (s : State) :
    Host.Outcome State Fault Refusal :=
  if s.portInput.rst then .next s.beginCycle.resetEdge
  else
    match hostPart run s.portInput.tx s.beginCycle with
    | .next s' => enginePart t s.op s.portInput.stall s'
    | .fault f => .fault f
    | .refused r => .refused r

/-- The same state with one more cycle's input in front of the others, nothing else changed. -/
def State.present (p : PortInput) (s : State) : State := { s with bus := p :: s.bus }

/-- The same state with a transaction, as bytes, on the bus in the next cycle. -/
def State.presentBytes (bytes : List Byte) (s : State) : State := s.present { tx := some bytes }

end Sys2Proof.Machine
end

