-- ==== Sys2Proof/Machine/Commands.lean ====
section
/-! DEFINITION. The meanings of the CMD writes (30_encoding.md R83, R84): the accept of each command.
The engine steps an accept starts are in Machine/Engine.lean. -/

namespace Sys2Proof.Machine

/-- NOP (43_host_access.md R170): DONE <- 1. -/
def execNop (s : State) : Host.Outcome State Fault Refusal := .next (s.whenIdle State.setDone)

/-- KEY_CLEAR (41_key_schedule.md R121). -/
def execKeyClear (s : State) : Host.Outcome State Fault Refusal := .next (s.whenIdle State.clearKey)

/-- KEY_COMMIT (41_key_schedule.md R124): INVALID_ARGUMENT on an empty key, else 36 COMMIT steps start. -/
def execKeyCommit (s : State) : Host.Outcome State Fault Refusal :=
  .next (s.whenIdle fun s => if s.keylen = 0 then s.raiseError .invalidArgument else s.startCommit)

/-- ENCRYPT (42_feistel.md R140): NO_KEY without a cipher instance, else 36 ENC steps start. -/
def execEncrypt (s : State) : Host.Outcome State Fault Refusal :=
  .next (s.whenIdle fun s => if s.keyvalid then s.startEncrypt else s.raiseError .noKey)

/-- DECRYPT (42_feistel.md R141): NO_KEY without a cipher instance, else 36 DEC steps start. -/
def execDecrypt (s : State) : Host.Outcome State Fault Refusal :=
  .next (s.whenIdle fun s => if s.keyvalid then s.startDecrypt else s.raiseError .noKey)

/-- CMD_ILLEGAL (43_host_access.md R171): the word is illegal whatever it is, so its value plays no part
(an ill-formed one is treated alike: DESIGN CHOICE, safe, log 13). -/
def execCmdIllegal (_d : Word) (s : State) : Host.Outcome State Fault Refusal :=
  .next (s.whenIdle (State.raiseError .illegalCmd))

end Sys2Proof.Machine
end

