-- ==== Sys2Proof/Machine/Reads.lean ====
section
/-! DEFINITION. The meanings of the register reads (43_host_access.md R180 to R186). A read puts its value
on `rdata` and writes no state of the engine (20_memory.md R66). -/

namespace Sys2Proof.Machine

/-- RD_CMD (R180): reads 0. -/
def execRdCmd (s : State) : Host.Outcome State Fault Refusal := .next (s.readOut 0)

/-- RD_STATUS (R181). -/
def execRdStatus (s : State) : Host.Outcome State Fault Refusal := .next (s.readOut s.statusWord)

/-- RD_CONFIG (R182). -/
def execRdConfig (s : State) : Host.Outcome State Fault Refusal := .next (s.readOut s.configWord)

/-- RD_KEYIN (R180): reads 0. -/
def execRdKeyin (s : State) : Host.Outcome State Fault Refusal := .next (s.readOut 0)

/-- RD_KEYLEN (R185). -/
def execRdKeylen (s : State) : Host.Outcome State Fault Refusal := .next (s.readOut s.keylenWord)

/-- RD_DIN0 (R185). -/
def execRdDin0 (s : State) : Host.Outcome State Fault Refusal := .next (s.readOut s.din0)

/-- RD_DIN1 (R185). -/
def execRdDin1 (s : State) : Host.Outcome State Fault Refusal := .next (s.readOut s.din1)

/-- RD_DOUT0 (R184). -/
def execRdDout0 (s : State) : Host.Outcome State Fault Refusal := .next (s.readOut s.dout0)

/-- RD_DOUT1 (R184). -/
def execRdDout1 (s : State) : Host.Outcome State Fault Refusal := .next (s.readOut s.dout1)

/-- RD_RKSEL (R185). -/
def execRdRksel (s : State) : Host.Outcome State Fault Refusal := .next (s.readOut s.rkselWord)

/-- RD_RKDATA (R183). -/
def execRdRkdata (s : State) : Host.Outcome State Fault Refusal := .next (s.readOut s.rkdataWord)

/-- RD_ROUNDS (R186). -/
def execRdRounds (s : State) : Host.Outcome State Fault Refusal := .next (s.readOut roundsWord)

/-- RD_RSVD_C (R180): reads 0. -/
def execRdRsvdC (s : State) : Host.Outcome State Fault Refusal := .next (s.readOut 0)

/-- RD_RSVD_D (R180): reads 0. -/
def execRdRsvdD (s : State) : Host.Outcome State Fault Refusal := .next (s.readOut 0)

/-- RD_RSVD_E (R180): reads 0. -/
def execRdRsvdE (s : State) : Host.Outcome State Fault Refusal := .next (s.readOut 0)

/-- RD_RSVD_F (R180): reads 0. -/
def execRdRsvdF (s : State) : Host.Outcome State Fault Refusal := .next (s.readOut 0)

end Sys2Proof.Machine
end

