-- ==== Sys2Proof/Machine/Writes.lean ====
section
/-! DEFINITION. The meanings of the register writes other than CMD (43_host_access.md R172 to R177,
41_key_schedule.md R122). -/

namespace Sys2Proof.Machine

/-- The STATUS write: write 1 to clear (R172). Bits 0, 2 and 15:4 of D are ignored. -/
def State.writeStatus (d : Word) (s : State) : State :=
  (s.clearDone (statusClearsDone d)).clearError (statusClearsErr d)

/-- WR_STATUS (R172): legal while busy. -/
def execWrStatus (d : Word) (s : State) : Host.Outcome State Fault Refusal := .next (s.writeStatus d)

/-- WR_CONFIG (R173): IE <- d[0]. -/
def execWrConfig (d : Word) (s : State) : Host.Outcome State Fault Refusal :=
  .next { s with ie := configEnable d }

/-- WR_KEYIN (R122): push one key word, or raise BUSY. -/
def execWrKeyin (d : Word) (s : State) : Host.Outcome State Fault Refusal :=
  .next (s.whenIdle (State.pushKey d))

/-- WR_DIN0 (R174): DIN0 <- d, also while busy (R241). -/
def execWrDin0 (d : Word) (s : State) : Host.Outcome State Fault Refusal := .next { s with din0 := d }

/-- WR_DIN1 (R175): DIN1 <- d, also while busy (R241). -/
def execWrDin1 (d : Word) (s : State) : Host.Outcome State Fault Refusal := .next { s with din1 := d }

/-- WR_RKSEL (R176): RKSEL <- d[5:0]. -/
def execWrRksel (d : Word) (s : State) : Host.Outcome State Fault Refusal :=
  .next { s with rksel := selectorOf d }

/-! A write to a read-only or reserved index does nothing (R177). -/

/-- WR_KEYLEN (R177). -/
def execWrKeylen (_d : Word) (s : State) : Host.Outcome State Fault Refusal := .next s

/-- WR_DOUT0 (R177): a result cannot be forged. -/
def execWrDout0 (_d : Word) (s : State) : Host.Outcome State Fault Refusal := .next s

/-- WR_DOUT1 (R177). -/
def execWrDout1 (_d : Word) (s : State) : Host.Outcome State Fault Refusal := .next s

/-- WR_RKDATA (R177). -/
def execWrRkdata (_d : Word) (s : State) : Host.Outcome State Fault Refusal := .next s

/-- WR_ROUNDS (R177). -/
def execWrRounds (_d : Word) (s : State) : Host.Outcome State Fault Refusal := .next s

/-- WR_RSVD_C (R177). -/
def execWrRsvdC (_d : Word) (s : State) : Host.Outcome State Fault Refusal := .next s

/-- WR_RSVD_D (R177). -/
def execWrRsvdD (_d : Word) (s : State) : Host.Outcome State Fault Refusal := .next s

/-- WR_RSVD_E (R177). -/
def execWrRsvdE (_d : Word) (s : State) : Host.Outcome State Fault Refusal := .next s

/-- WR_RSVD_F (R177). -/
def execWrRsvdF (_d : Word) (s : State) : Host.Outcome State Fault Refusal := .next s

end Sys2Proof.Machine
end

