-- ==== Sys2Proof/Machine/Dispatch.lean ====
section
/-! DEFINITION. exec: the meaning of each host transaction, one arm per constructor of Instr. -/

namespace Sys2Proof.Machine

/-- What a host transaction does to the state (20_memory.md R63, R64). -/
def exec (i : Instr) (s : State) : Host.Outcome State Fault Refusal :=
  match i with
  | .nop => Sys2Proof.Machine.execNop s
  | .keyClear => Sys2Proof.Machine.execKeyClear s
  | .keyCommit => Sys2Proof.Machine.execKeyCommit s
  | .encrypt => Sys2Proof.Machine.execEncrypt s
  | .decrypt => Sys2Proof.Machine.execDecrypt s
  | .cmdIllegal d => Sys2Proof.Machine.execCmdIllegal d s
  | .wrStatus d => Sys2Proof.Machine.execWrStatus d s
  | .wrConfig d => Sys2Proof.Machine.execWrConfig d s
  | .wrKeyin d => Sys2Proof.Machine.execWrKeyin d s
  | .wrKeylen d => Sys2Proof.Machine.execWrKeylen d s
  | .wrDin0 d => Sys2Proof.Machine.execWrDin0 d s
  | .wrDin1 d => Sys2Proof.Machine.execWrDin1 d s
  | .wrDout0 d => Sys2Proof.Machine.execWrDout0 d s
  | .wrDout1 d => Sys2Proof.Machine.execWrDout1 d s
  | .wrRksel d => Sys2Proof.Machine.execWrRksel d s
  | .wrRkdata d => Sys2Proof.Machine.execWrRkdata d s
  | .wrRounds d => Sys2Proof.Machine.execWrRounds d s
  | .wrRsvdC d => Sys2Proof.Machine.execWrRsvdC d s
  | .wrRsvdD d => Sys2Proof.Machine.execWrRsvdD d s
  | .wrRsvdE d => Sys2Proof.Machine.execWrRsvdE d s
  | .wrRsvdF d => Sys2Proof.Machine.execWrRsvdF d s
  | .rdCmd => Sys2Proof.Machine.execRdCmd s
  | .rdStatus => Sys2Proof.Machine.execRdStatus s
  | .rdConfig => Sys2Proof.Machine.execRdConfig s
  | .rdKeyin => Sys2Proof.Machine.execRdKeyin s
  | .rdKeylen => Sys2Proof.Machine.execRdKeylen s
  | .rdDin0 => Sys2Proof.Machine.execRdDin0 s
  | .rdDin1 => Sys2Proof.Machine.execRdDin1 s
  | .rdDout0 => Sys2Proof.Machine.execRdDout0 s
  | .rdDout1 => Sys2Proof.Machine.execRdDout1 s
  | .rdRksel => Sys2Proof.Machine.execRdRksel s
  | .rdRkdata => Sys2Proof.Machine.execRdRkdata s
  | .rdRounds => Sys2Proof.Machine.execRdRounds s
  | .rdRsvdC => Sys2Proof.Machine.execRdRsvdC s
  | .rdRsvdD => Sys2Proof.Machine.execRdRsvdD s
  | .rdRsvdE => Sys2Proof.Machine.execRdRsvdE s
  | .rdRsvdF => Sys2Proof.Machine.execRdRsvdF s

end Sys2Proof.Machine
end

