-- ==== Sys2Proof/Machine/Step.lean ====
section
/-! DEFINITION. The step: one clock cycle of the machine. -/

namespace Sys2Proof.Machine

/-- One clock cycle of an engine built with the tables `t` (R6: a model takes each OPEN entry as an
argument). -/
def stepWith (t : Tables) (s : State) : Host.Outcome State Fault Refusal := runCycle t exec s

/-- One clock cycle of the machine. -/
def step (s : State) : Host.Outcome State Fault Refusal := stepWith Config.tables s

/-- The same state with the instruction whose `nbits` bits are `w` on the bus in the next cycle: the
host's own move, since the engine fetches nothing (R27, R77; log 3). -/
def State.withFetchWord (s : State) (nbits w : Nat) : State := s.presentBytes (fetchBytes nbits w)

end Sys2Proof.Machine
end

