-- ==== Sys2Proof/Machine/Bus.lean ====
section
/-! DEFINITION. MemRead and MemWrite as 20_memory.md R63 and R64 give them, by register index, with the
admission of a CMD write as 30_encoding.md R84 writes it. They are a second account of what the
meanings do; the statements tie the two together. -/

namespace Sys2Proof.Machine

/-- The own action of each command once R84 has let it through; no other opcode is let through. -/
def State.runCommand (opc : BitVec 4) (s : State) : State :=
  match opc.toNat with
  | 0 => s.setDone
  | 1 => s.clearKey
  | 2 => if s.keylen = 0 then s.raiseError .invalidArgument else s.startCommit
  | 3 => if s.keyvalid then s.startEncrypt else s.raiseError .noKey
  | 4 => if s.keyvalid then s.startDecrypt else s.raiseError .noKey
  | _ => s.raiseError .illegalCmd

/-- A CMD write of `d`, its checks in the order of R84: BUSY, ILLEGAL_CMD, the command's own. -/
def State.writeCmd (d : Word) (s : State) : State :=
  if s.op ≠ .idle then s.raiseError .busy
  else if cmdReserved d ≠ 0 ∨ 4 < (cmdOpcode d).toNat then s.raiseError .illegalCmd
  else s.runCommand (cmdOpcode d)

/-- A KEYIN write of `d` (R122). -/
def State.writeKeyin (d : Word) (s : State) : State :=
  if s.op ≠ .idle then s.raiseError .busy else s.pushKey d

/-- MemWrite(a, 16, v) (R64). -/
def State.memWrite (a : Index) (v : Word) (s : State) : State :=
  match a.toNat with
  | 0x0 => s.writeCmd v
  | 0x1 => s.writeStatus v
  | 0x2 => { s with ie := configEnable v }
  | 0x3 => s.writeKeyin v
  | 0x5 => { s with din0 := v }
  | 0x6 => { s with din1 := v }
  | 0x9 => { s with rksel := selectorOf v }
  | _ => s

/-- MemRead(a, 16) (R63). -/
def State.memRead (a : Index) (s : State) : Word :=
  match a.toNat with
  | 0x1 => s.statusWord
  | 0x2 => s.configWord
  | 0x4 => s.keylenWord
  | 0x5 => s.din0
  | 0x6 => s.din1
  | 0x7 => s.dout0
  | 0x8 => s.dout1
  | 0x9 => s.rkselWord
  | 0xA => s.rkdataWord
  | 0xB => roundsWord
  | _ => 0

end Sys2Proof.Machine
end

