-- ==== Sys2Proof/Machine/HostProgram.lean ====
section
/-! DEFINITION. The host as an agent that runs a program: the statements of 30_encoding.md R88, the
pseudo-instructions of R89, and a run of such a program over the machine (70_reset_and_hazards.md R249). -/

namespace Sys2Proof.Machine

/-! ## Statements (R88) -/

/-- NAME of a `wr` or `rd` statement. -/
inductive RegName where
  | cmd
  | status
  | config
  | keyin
  | keylen
  | din0
  | din1
  | dout0
  | dout1
  | rksel
  | rkdata
  | rounds
  /-- `IDX<n>`. -/
  | idx (n : Index)
  deriving DecidableEq, Repr

/-- The register index of a name (R42). -/
def RegName.index : RegName → Index
  | .cmd => 0x0
  | .status => 0x1
  | .config => 0x2
  | .keyin => 0x3
  | .keylen => 0x4
  | .din0 => 0x5
  | .din1 => 0x6
  | .dout0 => 0x7
  | .dout1 => 0x8
  | .rksel => 0x9
  | .rkdata => 0xA
  | .rounds => 0xB
  | .idx n => n

/-- What a `wr` writes: `imm16`, or a value read before, as program P2 of 95_test_vectors.md writes
it (log 11). -/
inductive HostValue where
  | imm (v : Word)
  | var (x : Nat)
  deriving DecidableEq, Repr

/-- The two comparisons of a host branch. -/
inductive HostTest where
  | eq
  | ne
  deriving DecidableEq, Repr

/-- A statement of a host program. Variables and labels are numbers. -/
inductive HostStmt where
  | wr (name : RegName) (v : HostValue)
  | rd (name : RegName) (x : Nat)
  | label (name : Nat)
  /-- `if (x & m) == c goto target`, or `!=`. -/
  | branch (x : Nat) (m : Word) (test : HostTest) (c : Word) (target : Nat)
  | halt
  deriving DecidableEq, Repr

/-! ## Pseudo-instructions (R89) -/

/-- The commands a host can name. -/
inductive HostCommand where
  | nop
  | keyClear
  | keyCommit
  | encrypt
  | decrypt
  deriving DecidableEq, Repr

/-- The CMD word of a command (R83). -/
def HostCommand.word : HostCommand → Word
  | .nop => 0x0000
  | .keyClear => 0x0001
  | .keyCommit => 0x0002
  | .encrypt => 0x0003
  | .decrypt => 0x0004

/-- `cmd C`. -/
def pseudoCmd (c : HostCommand) : List HostStmt := [.wr .cmd (.imm c.word)]

/-- `wait`, with `w` its fresh label and `x` the variable it polls into. -/
def pseudoWait (w x : Nat) : List HostStmt :=
  [.label w, .rd .status x, .branch x 0x0001 .ne 0 w]

/-- `clrstat`. -/
def pseudoClrstat : List HostStmt := [.wr .status (.imm 0x000A)]

/-- `setkey k0, ..., k(n-1)`. -/
def pseudoSetkey (key : List Word) (w x : Nat) : List HostStmt :=
  pseudoCmd .keyClear ++ key.map (fun k => .wr .keyin (.imm k)) ++ pseudoCmd .keyCommit ++ pseudoWait w x

/-- `enc a, b -> c0, c1`. -/
def pseudoEnc (a b : HostValue) (c0 c1 w x : Nat) : List HostStmt :=
  [.wr .din0 a, .wr .din1 b] ++ pseudoCmd .encrypt ++ pseudoWait w x ++ [.rd .dout0 c0, .rd .dout1 c1]

/-- `dec a, b -> p0, p1`. -/
def pseudoDec (a b : HostValue) (p0 p1 w x : Nat) : List HostStmt :=
  [.wr .din0 a, .wr .din1 b] ++ pseudoCmd .decrypt ++ pseudoWait w x ++ [.rd .dout0 p0, .rd .dout1 p1]

/-- `rk i -> v`. -/
def pseudoRk (i : Word) (v : Nat) : List HostStmt := [.wr .rksel (.imm i), .rd .rkdata v]

/-! ## A run (R249) -/

/-- One cycle of a run's schedule: whether the host issues its next transaction in it or lets the cycle
pass, and whether the engine is held back (R71, R248). -/
structure HostSlot where
  issue : Bool
  stall : Bool
  deriving DecidableEq, Repr

/-- Why a host program has no next statement to run (D28: a spelling outside the grammar is refused). -/
inductive HostRefusal where
  /-- A variable used before any `rd` into it. Safe. -/
  | unsetVariable (x : Nat)
  /-- A branch to a label the program does not have. Safe. -/
  | noSuchLabel (name : Nat)
  /-- A branch to a label that stands at two positions: R88 does not say which one is meant. Safe. -/
  | ambiguousLabel (name : Nat)
  /-- The machine refused the cycle. Safe. -/
  | machine (r : Refusal)
  deriving DecidableEq, Repr

/-- A host program in progress over the machine. -/
structure HostRun where
  code : List HostStmt
  pc : Nat
  vars : List (Nat × Word)
  /-- The values returned by the `rd` statements, oldest first: the run's observation. -/
  reads : List Word
  /-- The coming cycles' schedule; after its last entry every cycle is as in the reference timing (R246). -/
  plan : List HostSlot
  halted : Bool
  machine : State
  deriving DecidableEq, Repr

/-- A program started from a machine state, a launch premise of R234. -/
def HostRun.start (code : List HostStmt) (plan : List HostSlot) (s : State) : HostRun where
  code := code
  pc := 0
  vars := []
  reads := []
  plan := plan
  halted := false
  machine := s

/-- A run is final when the host has ended and no operation is in progress (R249). -/
def HostRun.final (h : HostRun) : Bool := h.halted && !h.machine.busy

/-- A run's observation: the values its `rd` statements returned, and the engine state (R249). Of a run
that has ended but is not final, DOUT, DONE and KEYVALID are not settled yet. -/
def HostRun.observation (h : HostRun) : List Word × State := (h.reads, h.machine)

/-- The value of a variable. -/
def HostRun.var (h : HostRun) (x : Nat) : Option Word := (h.vars.find? (·.1 == x)).map (·.2)

/-- A run's outcome in the host's three kinds. -/
abbrev HostOutcome := Host.Outcome HostRun Fault HostRefusal

/-- One machine cycle with the given port input; `after` is what the host does with the new state. -/
def HostRun.cycle (t : Tables) (h : HostRun) (p : PortInput) (after : State → HostRun) : HostOutcome :=
  match stepWith t (h.machine.present p) with
  | .next s => .next (after s)
  | .fault f => .fault f
  | .refused r => .refused (.machine r)

/-- A cycle in which the host issues nothing. -/
def HostRun.pass (t : Tables) (h : HostRun) (stall : Bool) : HostOutcome :=
  h.cycle t { stall := stall } fun s => { h with machine := s }

/-- The host issues a transaction, in the cycle its plan gives next. -/
def HostRun.transact (t : Tables) (h : HostRun) (w : Tx) (after : HostRun → State → HostRun) : HostOutcome :=
  match h.plan with
  | [] => h.cycle t { tx := some (bytesOfTx w) } (after h)
  | slot :: plan => h.cycle t { tx := some (bytesOfTx w), stall := slot.stall } (after { h with plan := plan })

/-- The value a `wr` writes; a variable no `rd` has set is refused (DESIGN CHOICE, safe, log 11). -/
def HostRun.value (h : HostRun) : HostValue → Except HostRefusal Word
  | .imm v => .ok v
  | .var x =>
    match h.var x with
    | some v => .ok v
    | none => .error (.unsetVariable x)

/-- Where a `goto` goes: the one position of its label. A label at no position, or at two, is refused
(DESIGN CHOICE, safe, log 11). -/
def HostRun.target (h : HostRun) (name : Nat) : Except HostRefusal Nat :=
  match (List.range h.code.length).filter fun p => h.code[p]? == some (.label name) with
  | [p] => .ok p
  | [] => .error (.noSuchLabel name)
  | _ => .error (.ambiguousLabel name)

/-- The host acts on its next statement. Labels, branches and `halt` are the host's own and take no
machine cycle (R88; DESIGN CHOICE, safe, log 11). -/
def HostRun.act (t : Tables) (h : HostRun) : HostOutcome :=
  match h.code[h.pc]? with
  | none => .next { h with halted := true }
  | some .halt => .next { h with halted := true }
  | some (.label _) => .next { h with pc := h.pc + 1 }
  | some (.branch x m test c name) =>
    match h.value (.var x) with
    | .error r => .refused r
    | .ok v =>
      if decide (v &&& m = c) = (test == .eq) then
        match h.target name with
        | .error r => .refused r
        | .ok p => .next { h with pc := p }
      else .next { h with pc := h.pc + 1 }
  | some (.wr name v) =>
    match h.value v with
    | .error r => .refused r
    | .ok d => h.transact t (txOfWrite name.index d) fun h s => { h with pc := h.pc + 1, machine := s }
  | some (.rd name x) =>
    h.transact t (txOfRead name.index) fun h s =>
      { h with pc := h.pc + 1, machine := s, vars := (x, s.rdata) :: h.vars, reads := h.reads ++ [s.rdata] }

/-- One step of a run. Where the plan lets a cycle pass, it passes before the host acts, whatever the next
statement is, so engine steps interleave everywhere R71 allows. Once the host has ended, cycles pass until
no operation is in progress (R248, R249); a final run stays as it is. -/
def HostRun.step (t : Tables) (h : HostRun) : HostOutcome :=
  if h.final then .next h
  else
    match h.plan with
    | [] => if h.halted then h.pass t false else h.act t
    | slot :: plan =>
      if h.halted || !slot.issue then { h with plan := plan }.pass t slot.stall else h.act t

end Sys2Proof.Machine
end

