-- ==== Sys2Proof/Safety.lean ====
section
/-! DEFINITION. The terms claims are stated in: the invariant of 10_state.md R43, the launch premises of
70_reset_and_hazards.md R234, runs of cycles, and what two states share that a host can ever see. -/

namespace Sys2Proof.Machine

/-! ## The invariant (R43) -/

/-- RK holds the schedule of the first `len` words of the buffer (R43 item 5): MK' is a prefix of MK while
an instance lives, because KEYIN only appends (R122). -/
structure State.HoldsScheduleOf (len : Nat) (s : State) : Prop where
  one_le : 1 ≤ len
  le_keylen : len ≤ s.keylen.toNat
  repeats : ∀ i < 36, s.rkey[i]? = s.mkey[i % len]?

/-- The invariants of R43, with the codes of R200 and the progress of a COMMIT (R128) beside them. -/
structure State.Inv (s : State) : Prop where
  keylen_le : s.keylen.toNat ≤ 36
  no_key_no_instance : s.keylen = 0 → s.keyvalid = false
  commit_has_key : s.op = .commit → s.keyvalid = false ∧ 1 ≤ s.keylen.toNat
  rc_le : s.op ≠ .idle → s.rc.toNat ≤ 35
  kp_eq : s.op = .commit → s.kp.toNat = s.rc.toNat % s.keylen.toNat
  schedule : s.keyvalid = true → ∃ len, s.HoldsScheduleOf len
  written : s.op = .commit → ∀ j < s.rc.toNat, s.rkey[j]? = s.mkey[j % s.keylen.toNat]?
  no_err_no_code : s.err = false → s.errcode = 0
  err_code : s.err = true → 1 ≤ s.errcode.toNat ∧ s.errcode.toNat ≤ 4
  cipher_has_key : s.op = .enc ∨ s.op = .dec → s.keyvalid = true

/-! ## Launch premises (R234) -/

/-- `Ready(K)`: DIN, DOUT, DONE, IE and RKSEL are arbitrary (I15). -/
structure State.Ready (key : List Word) (h : key ≠ []) (s : State) : Prop where
  length_le : key.length ≤ 36
  idle : s.op = .idle
  keyvalid : s.keyvalid = true
  schedule : s.rkey = keySchedule key h
  keylen : s.keylen.toNat = key.length
  buffer : s.keyWords = key
  err : s.err = false
  errcode : s.errcode = 0

/-! ## The record of an error (R202) -/

/-- The state after a transaction whose only effect is to record `code`: the first error is kept. -/
def State.recorded (code : BitVec 4) (s : State) : State :=
  { s with err := true, errcode := if s.err then s.errcode else code }

/-- The error a transaction raises, by the causes of R200 in the order of R206; `none` where it raises
nothing. -/
def errorOf (i : Instr) (s : State) : Option (BitVec 4) :=
  match i with
  | .nop | .keyClear | .wrKeyin _ => if s.op ≠ .idle then some 4 else none
  | .keyCommit => if s.op ≠ .idle then some 4 else if s.keylen = 0 then some 1 else none
  | .encrypt | .decrypt => if s.op ≠ .idle then some 4 else if s.keyvalid = true then none else some 2
  | .cmdIllegal _ => if s.op ≠ .idle then some 4 else some 3
  | .wrStatus _ | .wrConfig _ | .wrKeylen _ | .wrDin0 _ | .wrDin1 _ | .wrDout0 _ | .wrDout1 _ | .wrRksel _
  | .wrRkdata _ | .wrRounds _ | .wrRsvdC _ | .wrRsvdD _ | .wrRsvdE _ | .wrRsvdF _ => none
  | .rdCmd | .rdStatus | .rdConfig | .rdKeyin | .rdKeylen | .rdDin0 | .rdDin1 | .rdDout0 | .rdDout1
  | .rdRksel | .rdRkdata | .rdRounds | .rdRsvdC | .rdRsvdD | .rdRsvdE | .rdRsvdF => none

/-- The transactions that may lower irq (R207), with OP before and after: a clear of DONE or ERR, a clear
of IE, or the accept of a command that has engine steps. -/
def MayLowerIrq (i : Instr) (before after : Op) : Prop :=
  (∃ d, i = .wrStatus d ∧ (d.getLsbD 1 = true ∨ d.getLsbD 3 = true)) ∨
  (∃ d, i = .wrConfig d ∧ d.getLsbD 0 = false) ∨
  (before = .idle ∧ after ≠ .idle ∧ (i = .keyCommit ∨ i = .encrypt ∨ i = .decrypt))

/-! ## Runs -/

/-- The port input of cycle `n` of a list of inputs; nothing is driven after its end. -/
def inputAt (bus : List PortInput) (n : Nat) : PortInput := bus[n]?.getD {}

/-- An input the ports can carry: if there is a transaction, TX can express it (R218). -/
def PortInput.expressible (p : PortInput) : Bool :=
  match p.tx with
  | none => true
  | some bytes => (decode bytes).isOk

/-- The first `n + 1` cycles carry no reset, and no transaction that TX cannot express. -/
def UndisturbedThrough (bus : List PortInput) (n : Nat) : Prop :=
  ∀ k ≤ n, (inputAt bus k).rst = false ∧ (inputAt bus k).expressible = true

/-- How many of the first `n` cycles let the engine take its step. -/
def engineTurns (bus : List PortInput) (n : Nat) : Nat :=
  (List.range n).countP fun k => !(inputAt bus k).stall

/-- `n` clock cycles. -/
def runCycles (t : Tables) : Nat → State → Host.Outcome State Fault Refusal
  | 0, s => .next s
  | n + 1, s =>
    match stepWith t s with
    | .next s' => runCycles t n s'
    | .fault f => .fault f
    | .refused r => .refused r

/-- `n` engine steps with no host transaction between them. -/
def engineSteps (t : Tables) : Nat → State → Host.Outcome State Fault Refusal
  | 0, s => .next s
  | n + 1, s =>
    match s.engineStep t with
    | .next s' => engineSteps t n s'
    | .fault f => .fault f
    | .refused r => .refused r

/-- `n` steps of a host program's run. -/
def hostSteps (t : Tables) : Nat → HostRun → HostOutcome
  | 0, h => .next h
  | n + 1, h =>
    match h.step t with
    | .next h' => hostSteps t n h'
    | .fault f => .fault f
    | .refused r => .refused r

/-! ## What a host can ever see (R44, R46) -/

/-- Two states that differ only in what R44 calls unspecified and unobservable: L, R, RC and KP while
no operation uses them, MK from KEYLEN on, RK while no instance exists and it is not yet rewritten. -/
structure SameVisible (a b : State) : Prop where
  op : a.op = b.op
  keylen : a.keylen = b.keylen
  buffer : ∀ j < a.keylen.toNat, a.mkey[j]? = b.mkey[j]?
  keyvalid : a.keyvalid = b.keyvalid
  schedule : a.keyvalid = true → a.rkey = b.rkey
  din0 : a.din0 = b.din0
  din1 : a.din1 = b.din1
  dout0 : a.dout0 = b.dout0
  dout1 : a.dout1 = b.dout1
  ie : a.ie = b.ie
  done : a.done = b.done
  err : a.err = b.err
  errcode : a.errcode = b.errcode
  rksel : a.rksel = b.rksel
  rdata : a.rdata = b.rdata
  bus : a.bus = b.bus
  rc : a.op ≠ .idle → a.rc = b.rc
  kp : a.op = .commit → a.kp = b.kp
  halves : a.op = .enc ∨ a.op = .dec → a.l = b.l ∧ a.r = b.r
  written : a.op = .commit → ∀ j < a.rc.toNat, a.rkey[j]? = b.rkey[j]?

end Sys2Proof.Machine
end

