-- ==== Sys2Proof/Certificates/Slice0/Obligations.lean ====
section
/-! DEFINITION. The statements for the provers, from the numbered rules of spec/. Each docstring names the
rule it formalises; OBLIGATIONS.json lists them. -/

open Sys2Proof Sys2Proof.Machine

/-! ## Encoding -/

/-- R80, R81, R83: no bit of an encoding is dropped, for every well-formed transaction. The three bytes
that carry a TX word are the model's choice (log 6). -/
def Obligations.DecodeOfEncodeIsTheInstruction : Prop :=
  ∀ i : Instr, i.wf = true → decode (encodeBytes i) = .ok i

/-- R80: the decoder yields well-formed instructions, and re-encoding gives the word back; for a read
the canonical word, whose D is 0. -/
def Obligations.EncodeOfDecodeIsCanonical : Prop :=
  ∀ w : Tx, (decodeTx w).wf = true ∧
    encode (decodeTx w) = if txWrite w then w else txOfRead (txIndex w)

/-- R87: every TX word selects the row of its instruction when rows are tried in table order; the
fallback row takes every write to index 0x0; the other rows do not overlap. -/
def Obligations.DecoderFollowsTheOpcodeTable : Prop :=
  (∀ w : Tx, ((opcodeRows.find? fun row => row.matches w).map fun row => row.mnemonic)
    = some (decodeTx w).mnemonic) ∧
  (commandRows.map fun row => row.mnemonic)
    = ["NOP", "KEY_CLEAR", "KEY_COMMIT", "ENCRYPT", "DECRYPT", "CMD_ILLEGAL"] ∧
  (commandRows.map fun row => row.mask)
    = [0x1FFFFF, 0x1FFFFF, 0x1FFFFF, 0x1FFFFF, 0x1FFFFF, 0x1F0000] ∧
  (∀ w : Tx, txWrite w = true → txIndex w = 0 →
    ∀ row ∈ commandRows, row.mnemonic = "CMD_ILLEGAL" → row.matches w = true) ∧
  (∀ row ∈ writeRows ++ readRows, row.mask &&& 0x1F0000 = 0x1F0000) ∧
  (writeRows ++ readRows).Pairwise fun a b => ∀ w : Tx, ¬ (a.matches w = true ∧ b.matches w = true)

/-- Words written out from R83, R86 and the rows' rules, one or more per family, in the model's carrier of
a TX word (log 6). -/
def Obligations.SampleWordsDecode : Prop :=
  decodeTableWord 24 0x100000 = some .nop ∧
  decodeTableWord 24 0x100003 = some .encrypt ∧
  decodeTableWord 24 0x100013 = some (.cmdIllegal 0x0013) ∧
  decodeTableWord 24 0x11000A = some (.wrStatus 0x000A) ∧
  decodeTableWord 24 0x130001 = some (.wrKeyin 0x0001) ∧
  decodeTableWord 24 0x1F1234 = some (.wrRsvdF 0x1234) ∧
  decodeTableWord 24 0x010000 = some .rdStatus ∧
  decodeTableWord 24 0x0AFFFF = some .rdRkdata

/-- R218: what TX cannot express is refused by name, at the decoder and by the cycle that meets it. The carrier
of three bytes is the model's choice (log 6). -/
def Obligations.InexpressibleTransactionsAreRefused : Prop :=
  (∀ bytes : List Byte, bytes.length ≠ 3 → decode bytes = .error .wrongLength) ∧
  (∀ b0 b1 b2 : Byte, 32 ≤ b2.toNat → decode [b0, b1, b2] = .error .tooWide) ∧
  (∀ b0 b1 b2 : Byte, b2.toNat < 32 → ∃ i, decode [b0, b1, b2] = .ok i) ∧
  ∀ (t : Tables) (s : State) (p : PortInput) (rest : List PortInput) (bytes : List Byte) (why : DecodeError),
    s.bus = p :: rest → p.rst = false → p.tx = some bytes → decode bytes = .error why →
    stepWith t s = .refused (.notATransaction why)

/-! ## The cycle -/

/-- A cycle runs the instruction its bytes decode to, and then an engine step if OP was not IDLE at
the start of the cycle (R72) and the engine is not held back. The list of coming inputs, the hold and
the `rdata` field are the model's choices (logs 3, 4 and 5). -/
def Obligations.StepRunsTheDecodedInstruction : Prop :=
  (∀ s : State, step s = stepWith Config.tables s) ∧
  ∀ (t : Tables) (s : State) (p : PortInput) (rest : List PortInput) (bytes : List Byte) (i : Instr),
    s.bus = p :: rest → p.rst = false → p.tx = some bytes → decode bytes = .ok i →
    stepWith t s =
      match exec i { s with rdata := 0, bus := rest } with
      | .next s' => if s.op = .idle ∨ p.stall = true then .next s' else s'.engineStep t
      | .fault f => .fault f
      | .refused r => .refused r

/-- R14, R217: a cycle with no transaction and no reset is an engine step if OP is not IDLE and the engine
is not held back (log 4), and otherwise changes nothing of the engine; `rdata` is 0 (log 5). -/
def Obligations.CycleWithoutTransaction : Prop :=
  ∀ (t : Tables) (s : State), s.portInput.rst = false → s.portInput.tx = none →
    stepWith t s =
      if s.op = .idle ∨ s.portInput.stall = true then .next { s with rdata := 0, bus := s.bus.tail }
      else State.engineStep t { s with rdata := 0, bus := s.bus.tail }

/-- R44: the values reset gives, where the rule gives one. -/
def Obligations.ResetValues : Prop :=
  State.reset.op = .idle ∧ State.reset.keylen = 0 ∧ State.reset.keyvalid = false ∧
  State.reset.din0 = 0 ∧ State.reset.din1 = 0 ∧ State.reset.dout0 = 0 ∧ State.reset.dout1 = 0 ∧
  State.reset.ie = false ∧ State.reset.done = false ∧ State.reset.err = false ∧
  State.reset.errcode = 0 ∧ State.reset.rksel = 0 ∧ State.reset.irq = false

/-- R230: `rst` abandons the operation in progress, ignores the transaction and discards the engine
step of its cycle; every piece of state takes its reset value. That this holds also where the bytes beside
`rst` are no TX word is the model's choice (log 14). -/
def Obligations.ResetWinsOverTransactionAndEngineStep : Prop :=
  ∀ (t : Tables) (s : State) (p : PortInput) (rest : List PortInput), s.bus = p :: rest → p.rst = true →
    ∃ u, stepWith t s = .next u ∧ u.op = .idle ∧ u.keylen = 0 ∧ u.keyvalid = false ∧
      u.din0 = 0 ∧ u.din1 = 0 ∧ u.dout0 = 0 ∧ u.dout1 = 0 ∧ u.ie = false ∧ u.done = false ∧
      u.err = false ∧ u.errcode = 0 ∧ u.rksel = 0 ∧ u.irq = false

/-- R72: in a cycle with a transaction T and an engine step E, both read the start-of-cycle state,
their writes are disjoint but for DONE, and there a set by E wins. The bus is the model's own (log 3). -/
def Obligations.TransactionAndEngineStepCommitTogether : Prop :=
  ∀ (t : Tables) (s : State) (p : PortInput) (rest : List PortInput) (bytes : List Byte) (i : Instr)
    (a b : State),
    s.op ≠ .idle → s.bus = p :: rest → p.rst = false → p.stall = false → p.tx = some bytes →
    decode bytes = .ok i →
    exec i { s with rdata := 0, bus := rest } = .next a →
    State.engineStep t { s with rdata := 0, bus := rest } = .next b →
    ∃ u, stepWith t s = .next u ∧
      (u.din0 = a.din0 ∧ u.din1 = a.din1 ∧ u.ie = a.ie ∧ u.rksel = a.rksel ∧ u.err = a.err ∧
        u.errcode = a.errcode ∧ u.rdata = a.rdata ∧ u.bus = rest) ∧
      (u.l = b.l ∧ u.r = b.r ∧ u.rc = b.rc ∧ u.kp = b.kp ∧ u.op = b.op ∧ u.rkey = b.rkey ∧
        u.keyvalid = b.keyvalid ∧ u.dout0 = b.dout0 ∧ u.dout1 = b.dout1) ∧
      u.mkey = s.mkey ∧ u.keylen = s.keylen ∧
      u.done = if b.op = .idle then true else a.done

/-! ## Commands -/

/-- R170. -/
def Obligations.NopSetsDone : Prop :=
  decodeTx 0x100000 = .nop ∧
  ∀ s : State,
    (s.op ≠ .idle → exec .nop s = .next (s.recorded 4)) ∧
    (s.op = .idle → exec .nop s = .next { s with done := true })

/-- R121. -/
def Obligations.KeyClearEndsTheInstance : Prop :=
  decodeTx 0x100001 = .keyClear ∧
  ∀ s : State,
    (s.op ≠ .idle → exec .keyClear s = .next (s.recorded 4)) ∧
    (s.op = .idle →
      exec .keyClear s = .next { s with keylen := 0, keyvalid := false, done := true })

/-- R124, the accept; the 36 engine steps are in CommitFillsTheRoundKeyFile. -/
def Obligations.KeyCommitAccept : Prop :=
  decodeTx 0x100002 = .keyCommit ∧
  ∀ s : State,
    (s.op ≠ .idle → exec .keyCommit s = .next (s.recorded 4)) ∧
    (s.op = .idle → s.keylen = 0 → exec .keyCommit s = .next (s.recorded 1)) ∧
    (s.op = .idle → s.keylen ≠ 0 →
      exec .keyCommit s =
        .next { s with keyvalid := false, rc := 0, kp := 0, op := .commit, done := false })

/-- R140, the accept; the 36 engine steps are in EncryptCommandComputesEnc. -/
def Obligations.EncryptAccept : Prop :=
  decodeTx 0x100003 = .encrypt ∧
  ∀ s : State,
    (s.op ≠ .idle → exec .encrypt s = .next (s.recorded 4)) ∧
    (s.op = .idle → s.keyvalid = false → exec .encrypt s = .next (s.recorded 2)) ∧
    (s.op = .idle → s.keyvalid = true →
      exec .encrypt s =
        .next { s with l := s.din0, r := s.din1, rc := 0, op := .enc, done := false })

/-- R141, the accept, its halves loaded crosswise; the 36 engine steps are in
DecryptCommandComputesDec. -/
def Obligations.DecryptAccept : Prop :=
  decodeTx 0x100004 = .decrypt ∧
  ∀ s : State,
    (s.op ≠ .idle → exec .decrypt s = .next (s.recorded 4)) ∧
    (s.op = .idle → s.keyvalid = false → exec .decrypt s = .next (s.recorded 2)) ∧
    (s.op = .idle → s.keyvalid = true →
      exec .decrypt s =
        .next { s with l := s.din1, r := s.din0, rc := 35, op := .dec, done := false })

/-- R171, R203: every CMD word with a reserved bit set or an opcode above 4 is CMD_ILLEGAL. -/
def Obligations.IllegalCommandsAreRecorded : Prop :=
  ∀ d : Word, d.extractLsb' 4 12 ≠ 0 ∨ 4 < (d.extractLsb' 0 4).toNat →
    decodeTx (0x10#5 ++ d) = .cmdIllegal d ∧
    ∀ s : State,
      (s.op ≠ .idle → exec (.cmdIllegal d) s = .next (s.recorded 4)) ∧
      (s.op = .idle → exec (.cmdIllegal d) s = .next (s.recorded 3))

/-! ## Register writes -/

/-- R172: at every state, and in a cycle whose engine step completes an operation DONE is 1 despite the
clear. -/
def Obligations.StatusWriteOneToClear : Prop :=
  (∀ d : Word, decodeTx (0x11#5 ++ d) = .wrStatus d) ∧
  (∀ (d : Word) (s : State),
    exec (.wrStatus d) s = .next { s with
      done := if d.getLsbD 1 then false else s.done
      err := if d.getLsbD 3 then false else s.err
      errcode := if d.getLsbD 3 then 0 else s.errcode }) ∧
  ∀ (t : Tables) (d : Word) (s u : State) (rest : List PortInput), s.op ≠ .idle →
    s.bus = { tx := some (encodeBytes (.wrStatus d)) } :: rest → stepWith t s = .next u → u.op = .idle →
    u.done = true

/-- R173: IE takes d[0], irq follows at once, and the other bits read back as 0. -/
def Obligations.ConfigWriteSetsEnable : Prop :=
  (∀ d : Word, decodeTx (0x12#5 ++ d) = .wrConfig d) ∧
  ∀ (d : Word) (s : State), ∃ u,
    exec (.wrConfig d) s = .next u ∧ u = { s with ie := d.getLsbD 0 } ∧
    u.irq = (d.getLsbD 0 && (s.done || s.err)) ∧
    exec .rdConfig u = .next { u with rdata := if d.getLsbD 0 then 1 else 0 }

/-- R122: the word goes to MK[KEYLEN]; at KEYLEN = 36 it is discarded; while busy it raises BUSY. -/
def Obligations.KeyinPushesOneWord : Prop :=
  (∀ d : Word, decodeTx (0x13#5 ++ d) = .wrKeyin d) ∧
  ∀ (d : Word) (s : State),
    (s.op ≠ .idle → exec (.wrKeyin d) s = .next (s.recorded 4)) ∧
    (s.op = .idle → ∀ h : s.keylen.toNat < 36,
      exec (.wrKeyin d) s =
        .next { s with mkey := s.mkey.set s.keylen.toNat d h, keylen := s.keylen + 1 }) ∧
    (s.op = .idle → s.keylen = 36 → exec (.wrKeyin d) s = .next s)

/-- R174, R175: also while busy, and the running operation's L and R are as before. -/
def Obligations.DinWritesStore : Prop :=
  (∀ d : Word, decodeTx (0x15#5 ++ d) = .wrDin0 d ∧ decodeTx (0x16#5 ++ d) = .wrDin1 d) ∧
  ∀ (d : Word) (s : State),
    exec (.wrDin0 d) s = .next { s with din0 := d } ∧
    exec (.wrDin1 d) s = .next { s with din1 := d }

/-- R176: RKSEL takes d[5:0] and reads back as written; above 35 it makes RKDATA read 0. -/
def Obligations.RkselWriteStores : Prop :=
  (∀ d : Word, decodeTx (0x19#5 ++ d) = .wrRksel d) ∧
  ∀ (d : Word) (s : State), ∃ u,
    exec (.wrRksel d) s = .next u ∧ u = { s with rksel := d.extractLsb' 0 6 } ∧
    exec .rdRksel u = .next { u with rdata := d &&& 0x003F } ∧
    (35 < (d.extractLsb' 0 6).toNat → exec .rdRkdata u = .next { u with rdata := 0 })

/-- R177: a write to a read-only or reserved index does nothing, for all nine. -/
def Obligations.IgnoredWritesDoNothing : Prop :=
  (∀ d : Word, decodeTx (0x14#5 ++ d) = .wrKeylen d ∧ decodeTx (0x17#5 ++ d) = .wrDout0 d ∧
    decodeTx (0x18#5 ++ d) = .wrDout1 d ∧ decodeTx (0x1A#5 ++ d) = .wrRkdata d ∧
    decodeTx (0x1B#5 ++ d) = .wrRounds d ∧ decodeTx (0x1C#5 ++ d) = .wrRsvdC d ∧
    decodeTx (0x1D#5 ++ d) = .wrRsvdD d ∧ decodeTx (0x1E#5 ++ d) = .wrRsvdE d ∧
    decodeTx (0x1F#5 ++ d) = .wrRsvdF d) ∧
  ∀ (d : Word) (s : State),
    exec (.wrKeylen d) s = .next s ∧ exec (.wrDout0 d) s = .next s ∧
    exec (.wrDout1 d) s = .next s ∧ exec (.wrRkdata d) s = .next s ∧
    exec (.wrRounds d) s = .next s ∧ exec (.wrRsvdC d) s = .next s ∧
    exec (.wrRsvdD d) s = .next s ∧ exec (.wrRsvdE d) s = .next s ∧
    exec (.wrRsvdF d) s = .next s

/-! ## Register reads -/

/-- R180: CMD, KEYIN and the reserved indices read 0, whatever D is. -/
def Obligations.WriteOnlyAndReservedReadZero : Prop :=
  (∀ d : Word, decodeTx (0x00#5 ++ d) = .rdCmd ∧ decodeTx (0x03#5 ++ d) = .rdKeyin ∧
    decodeTx (0x0C#5 ++ d) = .rdRsvdC ∧ decodeTx (0x0D#5 ++ d) = .rdRsvdD ∧
    decodeTx (0x0E#5 ++ d) = .rdRsvdE ∧ decodeTx (0x0F#5 ++ d) = .rdRsvdF) ∧
  ∀ s : State,
    exec .rdCmd s = .next { s with rdata := 0 } ∧ exec .rdKeyin s = .next { s with rdata := 0 } ∧
    exec .rdRsvdC s = .next { s with rdata := 0 } ∧ exec .rdRsvdD s = .next { s with rdata := 0 } ∧
    exec .rdRsvdE s = .next { s with rdata := 0 } ∧ exec .rdRsvdF s = .next { s with rdata := 0 }

/-- R181, with the layout of R36, bit by bit; reading clears nothing. -/
def Obligations.StatusReadLayout : Prop :=
  (∀ d : Word, decodeTx (0x01#5 ++ d) = .rdStatus) ∧
  ∀ s : State, ∃ v : Word,
    exec .rdStatus s = .next { s with rdata := v } ∧
    v.getLsbD 0 = decide (s.op ≠ .idle) ∧ v.getLsbD 1 = s.done ∧ v.getLsbD 2 = s.keyvalid ∧
    v.getLsbD 3 = s.err ∧ v.extractLsb' 4 4 = s.errcode ∧ v.extractLsb' 8 8 = 0

/-- R182. -/
def Obligations.ConfigReadsEnable : Prop :=
  (∀ d : Word, decodeTx (0x02#5 ++ d) = .rdConfig) ∧
  ∀ s : State, exec .rdConfig s = .next { s with rdata := if s.ie then 1 else 0 }

/-- R183: RK[RKSEL] while an instance exists and RKSEL is at most 35, and 0 otherwise, so also while a
KEY_COMMIT is in progress. -/
def Obligations.RkdataReadsTheSelectedRoundKey : Prop :=
  (∀ d : Word, decodeTx (0x0A#5 ++ d) = .rdRkdata) ∧
  ∀ s : State,
    (s.keyvalid = true → ∀ h : s.rksel.toNat ≤ 35,
      exec .rdRkdata s = .next { s with rdata := s.rkey[s.rksel.toNat]'(Nat.lt_succ_of_le h) }) ∧
    (s.keyvalid = false ∨ 35 < s.rksel.toNat → exec .rdRkdata s = .next { s with rdata := 0 }) ∧
    (s.Inv → s.op = .commit → exec .rdRkdata s = .next { s with rdata := 0 })

/-- R184: DOUT as it stands, in every state, busy ones too; no transaction changes it. -/
def Obligations.DoutReadsTheLastResult : Prop :=
  (∀ d : Word, decodeTx (0x07#5 ++ d) = .rdDout0 ∧ decodeTx (0x08#5 ++ d) = .rdDout1) ∧
  ∀ s : State,
    exec .rdDout0 s = .next { s with rdata := s.dout0 } ∧
    exec .rdDout1 s = .next { s with rdata := s.dout1 } ∧
    ∀ (i : Instr) (u : State), exec i s = .next u → u.dout0 = s.dout0 ∧ u.dout1 = s.dout1

/-- R185, the narrow fields zero-extended; no transaction but its own write changes a DIN register, so no
accept does, and no engine step; a push at KEYLEN = 36 leaves it, and KEYLEN is at most 36. -/
def Obligations.OperandAndCountReads : Prop :=
  (∀ d : Word, decodeTx (0x05#5 ++ d) = .rdDin0 ∧ decodeTx (0x06#5 ++ d) = .rdDin1 ∧
    decodeTx (0x04#5 ++ d) = .rdKeylen ∧ decodeTx (0x09#5 ++ d) = .rdRksel) ∧
  ∀ s : State,
    exec .rdDin0 s = .next { s with rdata := s.din0 } ∧
    exec .rdDin1 s = .next { s with rdata := s.din1 } ∧
    exec .rdKeylen s = .next { s with rdata := BitVec.ofNat 16 s.keylen.toNat } ∧
    exec .rdRksel s = .next { s with rdata := BitVec.ofNat 16 s.rksel.toNat } ∧
    (∀ (i : Instr) (u : State), exec i s = .next u →
      ((∀ d, i ≠ .wrDin0 d) → u.din0 = s.din0) ∧ ((∀ d, i ≠ .wrDin1 d) → u.din1 = s.din1)) ∧
    (∀ (t : Tables) (u : State), s.engineStep t = .next u → u.din0 = s.din0 ∧ u.din1 = s.din1) ∧
    (s.keylen = 36 → ∀ (d : Word) (u : State), exec (.wrKeyin d) s = .next u → u.keylen = 36) ∧
    (s.Inv → s.keylen.toNat ≤ 36)

/-- R186: ROUNDS reads 36. -/
def Obligations.RoundsReadsThirtySix : Prop :=
  (∀ d : Word, decodeTx (0x0B#5 ++ d) = .rdRounds) ∧
  ∀ s : State, exec .rdRounds s = .next { s with rdata := 0x0024 }

/-- R63, R66: every read, whatever its D, puts MemRead on `rdata` and writes no state of the engine. -/
def Obligations.EveryReadIsMemRead : Prop :=
  ∀ (a : Index) (d : Word) (s : State),
    exec (decodeTx (0#1 ++ a ++ d)) s = .next { s with rdata := s.memRead a }

/-- R64, R84: every write is MemWrite of its index, the CMD writes with the admission of R84. -/
def Obligations.EveryWriteIsMemWrite : Prop :=
  ∀ (a : Index) (v : Word) (s : State),
    exec (decodeTx (1#1 ++ a ++ v)) s = .next (s.memWrite a v)

/-! ## Errors and the interrupt -/

/-- R202 to R206: the error a transaction raises is the first of its checks that applies; it records
the code if ERR was 0 and changes nothing else, and no other transaction records one. -/
def Obligations.ErrorsArePreciseAndTheFirstIsKept : Prop :=
  ∀ (i : Instr) (s : State), i.wf = true →
    (∀ code, errorOf i s = some code → exec i s = .next (s.recorded code)) ∧
    (errorOf i s = none → ∃ u, exec i s = .next u ∧
      ((u.err = s.err ∧ u.errcode = s.errcode) ∨ ∃ d, i = .wrStatus d))

/-- R207: a transaction that lowers irq is a clear of DONE or ERR, a clear of IE, or the accept of
KEY_COMMIT, ENCRYPT or DECRYPT; and a cycle that lowers irq has `rst` or one of those transactions, so an
engine step never lowers it. -/
def Obligations.OnlyClearsAndAcceptsLowerIrq : Prop :=
  (∀ (i : Instr) (s u : State), exec i s = .next u → s.irq = true → u.irq = false →
    MayLowerIrq i s.op u.op) ∧
  ∀ (t : Tables) (s u : State), stepWith t s = .next u → s.irq = true → u.irq = false →
    s.portInput.rst = true ∨ ∃ bytes i, s.portInput.tx = some bytes ∧ decode bytes = .ok i ∧
      MayLowerIrq i s.op u.op

/-! ## The engine step -/

/-- R125, for every RC and KP in 0..35; and no transaction changes MK or KEYLEN meanwhile. -/
def Obligations.CommitEngineStep : Prop :=
  (∀ (i : Instr) (s u : State), s.op = .commit → exec i s = .next u →
    u.mkey = s.mkey ∧ u.keylen = s.keylen) ∧
  ∀ (t : Tables) (s : State), s.op = .commit → ∀ (hr : s.rc.toNat < 36) (hk : s.kp.toNat < 36),
    (s.rc = 35 → s.engineStep t = .next { s with
      rkey := s.rkey.set s.rc.toNat s.mkey[s.kp.toNat] hr
      kp := if s.kp + 1 = s.keylen then 0 else s.kp + 1
      op := .idle, keyvalid := true, done := true }) ∧
    (s.rc ≠ 35 → s.engineStep t = .next { s with
      rkey := s.rkey.set s.rc.toNat s.mkey[s.kp.toNat] hr
      kp := if s.kp + 1 = s.keylen then 0 else s.kp + 1
      rc := s.rc + 1 })

/-- R148, both directions, for every RC in 0..35. -/
def Obligations.EncAndDecEngineSteps : Prop :=
  ∀ (t : Tables) (s : State), ∀ hr : s.rc.toNat < 36,
    (s.op = .enc → s.rc = 35 → s.engineStep t = .next { s with
      l := s.r
      r := s.l ^^^ roundF t s.r s.rkey[s.rc.toNat]
      dout0 := s.l ^^^ roundF t s.r s.rkey[s.rc.toNat]
      dout1 := s.r
      op := .idle, done := true }) ∧
    (s.op = .enc → s.rc ≠ 35 → s.engineStep t = .next { s with
      l := s.r
      r := s.l ^^^ roundF t s.r s.rkey[s.rc.toNat]
      rc := s.rc + 1 }) ∧
    (s.op = .dec → s.rc = 0 → s.engineStep t = .next { s with
      l := s.r ^^^ roundF t s.l s.rkey[s.rc.toNat]
      r := s.l
      dout0 := s.r ^^^ roundF t s.l s.rkey[s.rc.toNat]
      dout1 := s.l
      op := .idle, done := true }) ∧
    (s.op = .dec → s.rc ≠ 0 → s.engineStep t = .next { s with
      l := s.r ^^^ roundF t s.l s.rkey[s.rc.toNat]
      r := s.l
      rc := s.rc - 1 })

/-- R210: from every state of the invariant an operation in progress ends after exactly the engine steps
that remain of its 36 (all 36 right after an accept), with no error. -/
def Obligations.EveryOperationEnds : Prop :=
  ∀ (t : Tables) (s : State), s.Inv → s.op ≠ .idle →
    ∃ u, engineSteps t (if s.op = .dec then s.rc.toNat + 1 else 36 - s.rc.toNat) s = .next u ∧
      u.op = .idle ∧ u.done = true ∧ u.keyvalid = true ∧ u.err = s.err ∧ u.errcode = s.errcode ∧
      ∀ m < (if s.op = .dec then s.rc.toNat + 1 else 36 - s.rc.toNat),
        ∃ v, engineSteps t m s = .next v ∧ v.op = s.op ∧ v.err = s.err ∧ v.errcode = s.errcode

/-- R149, R240: whatever the host sends meanwhile and however the engine is held back, after exactly
36 engine steps DOUT is Enc of the block DIN held at accept; until then the operation is in progress
and DOUT is the previous result. The coming inputs and the holds are the model's own data (logs 3, 4). -/
def Obligations.EncryptCommandComputesEnc : Prop :=
  ∀ (t : Tables) (s : State) (n : Nat), s.op = .idle → s.keyvalid = true →
    UndisturbedThrough s.bus n → engineTurns s.bus n = 35 → (inputAt s.bus n).stall = false →
    ∃ a u, exec .encrypt s = .next a ∧ runCycles t (n + 1) a = .next u ∧
      u.op = .idle ∧ u.done = true ∧ u.keyvalid = true ∧ u.rkey = s.rkey ∧
      ({ h0 := u.dout0, h1 := u.dout1 } : Block)
        = encBlock t s.rkey { h0 := s.din0, h1 := s.din1 } ∧
      ∀ m ≤ n, ∃ v, runCycles t m a = .next v ∧ v.op = .enc ∧ v.dout0 = s.dout0 ∧ v.dout1 = s.dout1

/-- R149, R240: the same of DECRYPT and Dec (inputs and holds: logs 3, 4). -/
def Obligations.DecryptCommandComputesDec : Prop :=
  ∀ (t : Tables) (s : State) (n : Nat), s.op = .idle → s.keyvalid = true →
    UndisturbedThrough s.bus n → engineTurns s.bus n = 35 → (inputAt s.bus n).stall = false →
    ∃ a u, exec .decrypt s = .next a ∧ runCycles t (n + 1) a = .next u ∧
      u.op = .idle ∧ u.done = true ∧ u.keyvalid = true ∧ u.rkey = s.rkey ∧
      ({ h0 := u.dout0, h1 := u.dout1 } : Block)
        = decBlock t s.rkey { h0 := s.din0, h1 := s.din1 } ∧
      ∀ m ≤ n, ∃ v, runCycles t m a = .next v ∧ v.op = .dec ∧ v.dout0 = s.dout0 ∧ v.dout1 = s.dout1

/-- R128: a KEY_COMMIT accepted with 1 to 36 words fills RK with their schedule, under any host and
any schedule; until it ends there is no instance. The inputs and holds are the model's own (logs 3, 4). -/
def Obligations.CommitFillsTheRoundKeyFile : Prop :=
  ∀ (t : Tables) (s : State) (n : Nat) (h : s.keyWords ≠ []), s.op = .idle → s.keylen.toNat ≤ 36 →
    UndisturbedThrough s.bus n → engineTurns s.bus n = 35 → (inputAt s.bus n).stall = false →
    ∃ a u, exec .keyCommit s = .next a ∧ runCycles t (n + 1) a = .next u ∧
      u.op = .idle ∧ u.done = true ∧ u.keyvalid = true ∧ u.rkey = keySchedule s.keyWords h ∧
      u.mkey = s.mkey ∧ u.keylen = s.keylen ∧
      ∀ m ≤ n, ∃ v, runCycles t m a = .next v ∧ v.op = .commit ∧ v.keyvalid = false

/-- R234: from an idle engine with an empty key buffer, pushing a master key of 1 to 36 words and
committing it reaches Ready of that key. It rests on the reference timing of R246, in which the engine is
held back in none of the cycles listed or after them (log 4); the bus is the model's (logs 3, 6). -/
def Obligations.PushingAndCommittingAKeyReachesReady : Prop :=
  ∀ (t : Tables) (s : State) (key : List Word) (h : key ≠ []), key.length ≤ 36 →
    s.op = .idle → s.keylen = 0 → s.err = false → s.errcode = 0 →
    s.bus = (key.map fun k => ({ tx := some (encodeBytes (.wrKeyin k)) } : PortInput))
      ++ [{ tx := some (encodeBytes .keyCommit) }] →
    ∃ u, runCycles t (key.length + 37) s = .next u ∧ u.Ready key h

/-- R248, R249: a host program's run that has ended becomes final, whatever its plan, and its reads are
settled when it ends. The plan is the model's own (logs 4, 11). -/
def Obligations.EndedHostRunBecomesFinal : Prop :=
  ∀ (t : Tables) (h : HostRun), h.machine.Inv → h.halted = true →
    ∃ n ≤ h.plan.length + 36, ∃ u, hostSteps t n h = .next u ∧ u.final = true ∧ u.reads = h.reads

/-! ## Hazards and whole-machine rules -/

/-- R240: while OP is not IDLE no transaction changes an operand of the running operation; CMD and
KEYIN writes are rejected with BUSY. -/
def Obligations.OperandsAreFrozenWhileBusy : Prop :=
  ∀ (i : Instr) (s : State), s.op ≠ .idle →
    (∃ u, exec i s = .next u ∧ u.l = s.l ∧ u.r = s.r ∧ u.rc = s.rc ∧ u.kp = s.kp ∧ u.rkey = s.rkey ∧
      u.mkey = s.mkey ∧ u.keylen = s.keylen ∧ u.op = s.op ∧ u.keyvalid = s.keyvalid ∧
      u.dout0 = s.dout0 ∧ u.dout1 = s.dout1) ∧
    ((∃ d : Word, i = decodeTx (0x10#5 ++ d) ∨ i = decodeTx (0x13#5 ++ d)) → exec i s = .next (s.recorded 4))

/-- R129: only the COMMIT engine step and reset change RK, so an instance's round keys are immutable. -/
def Obligations.RoundKeysAreImmutable : Prop :=
  (∀ (t : Tables) (s u : State), stepWith t s = .next u → s.portInput.rst = false →
    u.rkey ≠ s.rkey → s.op = .commit) ∧
  ∀ (t : Tables) (s u : State), s.Inv → stepWith t s = .next u → s.portInput.rst = false →
    s.keyvalid = true → u.rkey = s.rkey

/-- R32, R131: an instance comes into being only in the last engine step of a KEY_COMMIT, and ends only by
reset, an accepted KEY_CLEAR or an accepted KEY_COMMIT. -/
def Obligations.InstanceBeginsAndEndsOnlyByItsRules : Prop :=
  ∀ (t : Tables) (s u : State), stepWith t s = .next u →
    (s.keyvalid = false → u.keyvalid = true →
      s.portInput.rst = false ∧ s.op = .commit ∧ s.rc = 35 ∧ u.op = .idle) ∧
    (s.keyvalid = true → u.keyvalid = false →
      s.portInput.rst = true ∨ (s.op = .idle ∧ ∃ bytes, s.portInput.tx = some bytes ∧
        (decode bytes = .ok .keyClear ∨ decode bytes = .ok .keyCommit)))

/-- R37: without reset, DONE is set only by the completion of an operation, NOP or KEY_CLEAR, and
cleared only by a STATUS write with bit 1 or the accept of a command that has engine steps. -/
def Obligations.DoneIsSetAndClearedOnlyByItsRules : Prop :=
  ∀ (t : Tables) (s u : State), stepWith t s = .next u → s.portInput.rst = false →
    (s.done = false → u.done = true →
      (s.op ≠ .idle ∧ u.op = .idle) ∨ (s.op = .idle ∧ ∃ bytes, s.portInput.tx = some bytes ∧
        (decode bytes = .ok .nop ∨ decode bytes = .ok .keyClear))) ∧
    (s.done = true → u.done = false → ∃ bytes, s.portInput.tx = some bytes ∧
      ((∃ d, decode bytes = .ok (.wrStatus d) ∧ d.getLsbD 1 = true) ∨
        (s.op = .idle ∧ u.op ≠ .idle ∧
          (decode bytes = .ok .keyCommit ∨ decode bytes = .ok .encrypt ∨ decode bytes = .ok .decrypt))))

/-- R34: DOUT changes only in the engine step that completes an ENCRYPT or DECRYPT, or by reset. -/
def Obligations.DoutChangesOnlyAtCompletion : Prop :=
  ∀ (t : Tables) (s u : State), stepWith t s = .next u → s.portInput.rst = false →
    u.dout0 ≠ s.dout0 ∨ u.dout1 ≠ s.dout1 →
    (s.op = .enc ∨ s.op = .dec) ∧ u.op = .idle ∧ u.done = true

/-- R43 holds at reset. -/
def Obligations.ResetMeetsTheInvariant : Prop := State.reset.Inv

/-- R43: every cycle keeps the invariant, from every state that meets it. -/
def Obligations.StepKeepsTheInvariant : Prop :=
  ∀ (t : Tables) (s u : State), s.Inv → stepWith t s = .next u → u.Inv

/-- R61, R210, R218: from every state of the invariant, a cycle whose input TX can express answers a
next state: no stuck state, no hang, no bus error. -/
def Obligations.EveryExpressibleCycleCompletes : Prop :=
  ∀ (t : Tables) (s : State), s.Inv → s.portInput.expressible = true → ∃ u, stepWith t s = .next u

/-- R44, R155: what R44 leaves unspecified is never observed: two states that differ only in it take
the same step and go on differing only in it. The reset values of log 2 are therefore invisible. -/
def Obligations.UnspecifiedStateIsNeverObserved : Prop :=
  ∀ (t : Tables) (a b a' : State), a.Inv → b.Inv → SameVisible a b → stepWith t a = .next a' →
    ∃ b', stepWith t b = .next b' ∧ SameVisible a' b' ∧ a'.irq = b'.irq ∧ a'.statusWord = b'.statusWord

/-! ## The transform -/

/-- R147: the inverse law, for any tables, bijective or not. -/
def Obligations.DecryptionInvertsEncryption : Prop :=
  ∀ (t : Tables) (rk : KeyFile) (b : Block), decBlock t rk (encBlock t rk b) = b

/-- R154: the reverse law, so Enc and Dec are bijections of the blocks. -/
def Obligations.EncryptionInvertsDecryption : Prop :=
  ∀ (t : Tables) (rk : KeyFile), (∀ b : Block, encBlock t rk (decBlock t rk b) = b) ∧
    Function.Bijective (encBlock t rk) ∧ Function.Bijective (decBlock t rk)

/-- R152: the reverse-key law. -/
def Obligations.DecryptionIsEncryptionWithReversedKeys : Prop :=
  ∀ (t : Tables) (rk : KeyFile) (b : Block), decBlock t rk b = encBlock t rk.reverse b

/-- R153: with a palindromic schedule Dec is Enc and Enc is an involution; a key of one word always
gives one. -/
def Obligations.PalindromicSchedulesMakeEncAnInvolution : Prop :=
  (∀ (t : Tables) (rk : KeyFile) (b : Block), rk.reverse = rk →
    decBlock t rk b = encBlock t rk b ∧ encBlock t rk (encBlock t rk b) = b) ∧
  ∀ (k : Word) (h : [k] ≠ []), (keySchedule [k] h).reverse = keySchedule [k] h

/-- R100, R101: Sub acts on each nibble lane by the one table, and is a bijection when SBOX is. -/
def Obligations.SubActsOnEachNibbleLane : Prop :=
  (∀ (t : Tables) (x : Word) (j : Nat), j < 4 →
    ((subNibbles t x).extractLsb' (4 * j) 4).toNat = (t.sbox (x.extractLsb' (4 * j) 4).toFin).val) ∧
  ∀ t : Tables, Function.Injective t.sbox → Function.Bijective (subNibbles t)

/-- R102, R103: output bit PERM[i] is input bit i, and the corner cases of R102, for a bijective PERM. -/
def Obligations.PermMovesBitToItsDestination : Prop :=
  (∀ t : Tables, permBits t 0 = 0) ∧
  ∀ t : Tables, Function.Injective t.perm →
    (∀ (x : Word) (i : Fin 16), (permBits t x).getLsbD (t.perm i).val = x.getLsbD i.val) ∧
    permBits t 0xFFFF = 0xFFFF ∧
    (∀ x : Word, (Finset.univ.filter fun j : Fin 16 => (permBits t x).getLsbD j.val = true).card
      = (Finset.univ.filter fun i : Fin 16 => x.getLsbD i.val = true).card) ∧
    (∀ a b : Word, permBits t (a ^^^ b) = permBits t a ^^^ permBits t b) ∧
    Function.Bijective (permBits t)

/-- R104: F substitutes, then permutes, then adds the key by XOR; two keys give results that differ by
the keys' difference; with identity tables F is the XOR. -/
def Obligations.RoundFunctionMixesTheKeyLast : Prop :=
  (∀ x k : Word, roundF { sbox := id, perm := id } x k = x ^^^ k) ∧
  ∀ (t : Tables) (x k k' : Word),
    roundF t x k = permBits t (subNibbles t x) ^^^ k ∧
    roundF t x 0 = permBits t (subNibbles t x) ∧
    roundF t x k ^^^ roundF t x k' = k ^^^ k'

/-- R120, R127, R130: each round key is the master-key word at its index modulo the length; words from
the 37th on change nothing. -/
def Obligations.KeyScheduleRepeatsTheKey : Prop :=
  (∀ (key : List Word) (h : key ≠ []) (i : Nat), i < 36 →
    (keySchedule key h)[i]? = key[i % key.length]?) ∧
  (∀ (key : List Word) (h : key ≠ []) (i : Nat), i < 36 →
    (keySchedule key h)[i]? = (keySchedule key h)[i % key.length]?) ∧
  ∀ (key : List Word) (h : key ≠ []) (h' : key.take 36 ≠ []),
    keySchedule key h = keySchedule (key.take 36) h'
end

