-- ==== Sys2Proof/Laws/Decode.lean ====
section
/-! SUPPORT. The fields of a transaction word, and the bytes that carry one. -/

namespace Sys2Proof

@[simp] theorem txWrite_append (a : BitVec 5) (d : Word) : txWrite (a ++ d) = a.getLsbD 4 := by
  have := BitVec.getLsbD_append (x := a) (y := d) (i := 20)
  simpa [txWrite] using this

@[simp] theorem txIndex_append (a : BitVec 5) (d : Word) : txIndex (a ++ d) = a.extractLsb' 0 4 := by
  apply BitVec.eq_of_getLsbD_eq
  intro i hi
  have := BitVec.getLsbD_append (x := a) (y := d) (i := 16 + i)
  simp [hi, txIndex] at this ⊢
  convert this using 1

@[simp] theorem txData_append (a : BitVec 5) (d : Word) : txData (a ++ d) = d := by
  apply BitVec.eq_of_getLsbD_eq
  intro i hi
  have := BitVec.getLsbD_append (x := a) (y := d) (i := i)
  simp [hi, txData] at this ⊢
  convert this using 1

/-- What the decoder does with the top five bits of a word, and with its D. -/
theorem decodeTx_append (a : BitVec 5) (d : Word) :
    decodeTx (a ++ d) =
      if a.getLsbD 4 then decodeWrite (a.extractLsb' 0 4) d else decodeRead (a.extractLsb' 0 4) := by
  simp only [decodeTx, txWrite_append, txIndex_append, txData_append]

/-- The three bytes of a word carry it. -/
theorem txOfBytes_bytesOfTx (w : Tx) :
    txOfBytes (w.extractLsb' 0 8) (w.extractLsb' 8 8) ((w.extractLsb' 16 5).setWidth 8) = w := by
  apply BitVec.eq_of_getLsbD_eq
  intro i hi
  have h1 := BitVec.getLsbD_append (x := ((w.extractLsb' 16 5).setWidth 8).extractLsb' 0 5 ++ w.extractLsb' 8 8)
    (y := w.extractLsb' 0 8) (i := i)
  have h2 := BitVec.getLsbD_append (x := ((w.extractLsb' 16 5).setWidth 8).extractLsb' 0 5)
    (y := w.extractLsb' 8 8) (i := i - 8)
  rw [h2] at h1
  refine h1.trans ?_
  simp only [BitVec.getLsbD_extractLsb', BitVec.getLsbD_setWidth]
  split_ifs with h3 h4
  · simp [h3]
  · rw [show 8 + (i - 8) = i by omega]; simp [h4]
  · have h5 : i - 8 - 8 < 5 := by omega
    have h8 : i - 8 - 8 < 8 := by omega
    have hi' : 16 + (i - 8 - 8) = i := by omega
    simp [h5, h8, hi']

end Sys2Proof
end

