-- ==== Sys2Proof/Laws/HostProgram.lean ====
section
/-! SUPPORT. What a step of a host program's run does once the host has ended, and what keeps the schedule of
an instance. -/

namespace Sys2Proof.Machine

/-- A final run stays as it is. -/
theorem HostRun.step_of_final (t : Tables) {h : HostRun} (hf : h.final = true) : h.step t = .next h := by
  simp [HostRun.step, hf]

/-- A run that has ended and is not final lets a cycle pass, held back as its plan says. -/
theorem HostRun.step_of_ended (t : Tables) {h : HostRun} (hh : h.halted = true) (hf : h.final = false) :
    h.step t = { h with plan := h.plan.tail }.pass t (h.plan.head?.any HostSlot.stall) := by
  cases h
  rename_i code pc vars reads plan halted machine
  obtain rfl : halted = true := hh
  cases plan <;> simp [HostRun.step, hf]

/-- The schedule is kept where RK, MK and KEYLEN are. -/
theorem State.HoldsScheduleOf.of_eq {len : Nat} {s u : State} (h : s.HoldsScheduleOf len)
    (hrk : u.rkey = s.rkey) (hmk : u.mkey = s.mkey) (hlen : u.keylen = s.keylen) : u.HoldsScheduleOf len :=
  ⟨h.one_le, hlen ▸ h.le_keylen, by rw [hrk, hmk]; exact h.repeats⟩

/-- A push appends to the buffer, so the schedule stays that of a prefix (R122, R43 item 5). -/
theorem State.HoldsScheduleOf.pushKey {len : Nat} {s : State} (h : s.HoldsScheduleOf len) (d : Word) :
    (s.pushKey d).HoldsScheduleOf len := by
  unfold State.pushKey
  split
  · rename_i hk
    have hk : s.keylen.toNat < 36 := by simpa [BitVec.lt_def] using hk
    have hle := h.le_keylen
    refine ⟨h.one_le, ?_, fun i hi => ?_⟩
    · have : (s.keylen + 1).toNat = s.keylen.toNat + 1 := by simp; omega
      exact this ▸ Nat.le_succ_of_le hle
    · have : i % len < len := Nat.mod_lt _ h.one_le
      have hne : s.keylen.toNat ≠ i % len := by omega
      rw [h.repeats i hi]
      exact (Vector.getElem?_setIfInBounds_ne hne).symm
  · exact h

end Sys2Proof.Machine
end

