-- ==== Sys2Proof/Laws/Ops.lean ====
section
/-! SUPPORT. What each shared operation does, said once: admission, the key buffer, a transaction, an
engine step, a cycle, a run of cycles. -/

namespace Sys2Proof.Machine

/-! ## Errors and admission -/

theorem State.raiseError_eq_recorded (c : ErrorCode) (s : State) : s.raiseError c = s.recorded c.bits := rfl

theorem State.whenIdle_of_busy {s : State} (h : s.op ≠ .idle) (act : State → State) :
    s.whenIdle act = s.recorded 4 := by
  simp [State.whenIdle, State.busy, h, State.raiseError_eq_recorded, ErrorCode.bits]

theorem State.whenIdle_of_idle {s : State} (h : s.op = .idle) (act : State → State) : s.whenIdle act = act s := by
  simp [State.whenIdle, State.busy, h]

/-! ## The key buffer -/

theorem State.pushKey_of_lt {s : State} (d : Word) (h : s.keylen.toNat < 36) :
    s.pushKey d = { s with mkey := s.mkey.set s.keylen.toNat d h, keylen := s.keylen + 1 } := by
  have hlt : s.keylen < 36#6 := by simpa [BitVec.lt_def] using h
  simp [State.pushKey, hlt, Vector.setIfInBounds, Vector.set, Array.setIfInBounds, h]

theorem State.pushKey_of_full {s : State} (d : Word) (h : 36 ≤ s.keylen.toNat) : s.pushKey d = s := by
  have hle : ¬ s.keylen < 36#6 := by simpa [BitVec.lt_def] using h
  simp [State.pushKey, hle]

theorem State.keyWords_length {s : State} (h : s.keylen.toNat ≤ 36) :
    s.keyWords.length = s.keylen.toNat := by
  simp [State.keyWords, h]

theorem State.keyWords_getElem? {s : State} {j : Nat} (h : j < s.keylen.toNat) :
    s.keyWords[j]? = s.mkey[j]? := by
  simp [State.keyWords, h]

/-! ## A transaction -/

/-- Everything a host transaction can do to a state. -/
inductive TransactionEffect (s : State) : State → Prop where
  /-- An error is recorded and nothing else happens (R202). -/
  | rejected (code : BitVec 4) (h : 1 ≤ code.toNat ∧ code.toNat ≤ 4) : TransactionEffect s (s.recorded code)
  /-- Only host-side registers, flags to clear and the read port: no operand of the engine. -/
  | hostSide (d0 d1 : Word) (ie : Bool) (sel : Count) (v : Word) (cd ce : Bool) :
      TransactionEffect s { s with
        din0 := d0, din1 := d1, ie := ie, rksel := sel, rdata := v, done := s.done && !cd,
        err := s.err && !ce, errcode := if ce then 0 else s.errcode }
  | nop (h : s.op = .idle) : TransactionEffect s s.setDone
  | keyClear (h : s.op = .idle) : TransactionEffect s s.clearKey
  | keyin (h : s.op = .idle) (d : Word) (hk : s.keylen.toNat < 36) :
      TransactionEffect s { s with mkey := s.mkey.set s.keylen.toNat d, keylen := s.keylen + 1 }
  | keyCommit (h : s.op = .idle) (hk : s.keylen ≠ 0) : TransactionEffect s s.startCommit
  | encrypt (h : s.op = .idle) (hk : s.keyvalid = true) : TransactionEffect s s.startEncrypt
  | decrypt (h : s.op = .idle) (hk : s.keyvalid = true) : TransactionEffect s s.startDecrypt

/-- A write of host-side registers, or a read, clears no flag. -/
theorem TransactionEffect.registers (s : State) (d0 d1 : Word) (ie : Bool) (sel : Count) (v : Word) :
    TransactionEffect s { s with din0 := d0, din1 := d1, ie := ie, rksel := sel, rdata := v } := by
  simpa using TransactionEffect.hostSide (s := s) d0 d1 ie sel v false false

/-- Every transaction answers a next state, with one of those effects. -/
theorem exec_effect (i : Instr) (s : State) : ∃ u, exec i s = .next u ∧ TransactionEffect s u := by
  by_cases h : s.op = .idle
  · cases i <;> refine ⟨_, rfl, ?_⟩
    case nop => rw [State.whenIdle_of_idle h]; exact .nop h
    case keyClear => rw [State.whenIdle_of_idle h]; exact .keyClear h
    case keyCommit =>
      rw [State.whenIdle_of_idle h]; split_ifs with hk
      exacts [.rejected 1 (by decide), .keyCommit h hk]
    case encrypt =>
      rw [State.whenIdle_of_idle h]; split_ifs with hk
      exacts [.encrypt h hk, .rejected 2 (by decide)]
    case decrypt =>
      rw [State.whenIdle_of_idle h]; split_ifs with hk
      exacts [.decrypt h hk, .rejected 2 (by decide)]
    case cmdIllegal => rw [State.whenIdle_of_idle h]; exact .rejected 3 (by decide)
    case wrKeyin d =>
      rw [State.whenIdle_of_idle h]
      rcases Nat.lt_or_ge s.keylen.toNat 36 with hk | hk
      · rw [State.pushKey_of_lt d hk]; exact .keyin h d hk
      · rw [State.pushKey_of_full d hk]; exact .registers s s.din0 s.din1 s.ie s.rksel s.rdata
    case wrStatus d =>
      exact .hostSide (s := s) s.din0 s.din1 s.ie s.rksel s.rdata (statusClearsDone d) (statusClearsErr d)
    all_goals exact .registers s _ _ _ _ _
  · cases i <;> refine ⟨_, rfl, ?_⟩
    case wrStatus d =>
      exact .hostSide (s := s) s.din0 s.din1 s.ie s.rksel s.rdata (statusClearsDone d) (statusClearsErr d)
    all_goals first
      | (rw [State.whenIdle_of_busy h]; exact .rejected 4 (by decide))
      | exact .registers s _ _ _ _ _

/-- A transaction leaves the round keys, the result and the coming inputs alone. -/
theorem TransactionEffect.keeps {s u : State} (h : TransactionEffect s u) :
    u.rkey = s.rkey ∧ u.dout0 = s.dout0 ∧ u.dout1 = s.dout1 ∧ u.bus = s.bus := by
  cases h <;> exact ⟨rfl, rfl, rfl, rfl⟩

/-- A transaction while the engine is busy leaves it alone. -/
theorem TransactionEffect.keeps_of_busy {s u : State} (hb : s.op ≠ .idle) (h : TransactionEffect s u) :
    u.op = s.op ∧ u.l = s.l ∧ u.r = s.r ∧ u.rc = s.rc ∧ u.kp = s.kp ∧ u.mkey = s.mkey ∧
      u.keylen = s.keylen ∧ u.keyvalid = s.keyvalid := by
  cases h with
  | rejected => exact ⟨rfl, rfl, rfl, rfl, rfl, rfl, rfl, rfl⟩
  | hostSide => exact ⟨rfl, rfl, rfl, rfl, rfl, rfl, rfl, rfl⟩
  | _ => contradiction

/-! ## An engine step -/

theorem State.engineStep_idle (t : Tables) {s : State} (h : s.op = .idle) : s.engineStep t = .next s := by
  simp [State.engineStep, h]

theorem State.engineStep_enc (t : Tables) {s : State} (h : s.op = .enc) (hr : s.rc.toNat < 36) :
    s.engineStep t = .next (s.encStep t s.rkey[s.rc.toNat]) := by
  simp [State.engineStep, h, entry, hr]

theorem State.engineStep_dec (t : Tables) {s : State} (h : s.op = .dec) (hr : s.rc.toNat < 36) :
    s.engineStep t = .next (s.decStep t s.rkey[s.rc.toNat]) := by
  simp [State.engineStep, h, entry, hr]

theorem State.engineStep_commit (t : Tables) {s : State} (h : s.op = .commit) (hr : s.rc.toNat < 36)
    (hk : s.kp.toNat < 36) : s.engineStep t = .next (s.commitStep s.mkey[s.kp.toNat]) := by
  simp [State.engineStep, h, entry, hr, hk]

/-- Everything an engine step that answers a next state can have done. -/
theorem State.engineStep_cases {t : Tables} {s u : State} (h : s.engineStep t = .next u) :
    (s.op = .idle ∧ u = s) ∨
    (s.op = .enc ∧ ∃ hr : s.rc.toNat < 36, u = s.encStep t s.rkey[s.rc.toNat]) ∨
    (s.op = .dec ∧ ∃ hr : s.rc.toNat < 36, u = s.decStep t s.rkey[s.rc.toNat]) ∨
    (s.op = .commit ∧ s.rc.toNat < 36 ∧ ∃ hk : s.kp.toNat < 36, u = s.commitStep s.mkey[s.kp.toNat]) := by
  cases ho : s.op with
  | idle => rw [engineStep_idle t ho] at h; cases h; simp
  | enc =>
    by_cases hr : s.rc.toNat < 36
    · rw [engineStep_enc t ho hr] at h; cases h; simp [hr]
    · simp [State.engineStep, ho, entry, hr] at h
  | dec =>
    by_cases hr : s.rc.toNat < 36
    · rw [engineStep_dec t ho hr] at h; cases h; simp [hr]
    · simp [State.engineStep, ho, entry, hr] at h
  | commit =>
    by_cases hr : s.rc.toNat < 36
    · by_cases hk : s.kp.toNat < 36
      · rw [engineStep_commit t ho hr hk] at h; cases h; simp [hr, hk]
      · simp [State.engineStep, ho, entry, hr, hk] at h
    · simp [State.engineStep, ho, hr] at h

/-! ## A cycle -/

/-- The host's part of a cycle, when it answers a next state, is the effect of a transaction. -/
theorem hostPart_effect {tx : Option (List Byte)} {s u : State} (h : hostPart exec tx s = .next u) :
    TransactionEffect s u := by
  unfold hostPart at h
  split at h
  · cases h; exact .registers s s.din0 s.din1 s.ie s.rksel s.rdata
  · split at h
    · obtain ⟨v, hv, he⟩ := exec_effect _ s
      rw [hv] at h; cases h; exact he
    · cases h

/-- The host's part of a cycle whose input TX can express answers a next state. -/
theorem hostPart_of_expressible (p : PortInput) (s : State) (h : p.expressible = true) :
    ∃ u, hostPart exec p.tx s = .next u ∧ TransactionEffect s u := by
  have hex : ∃ u, hostPart exec p.tx s = .next u := by
    unfold hostPart PortInput.expressible at *
    cases htx : p.tx with
    | none => exact ⟨_, rfl⟩
    | some bytes =>
      simp only [htx] at h ⊢
      cases hd : decode bytes with
      | error e => rw [hd] at h; simp [Except.isOk, Except.toBool] at h
      | ok i => obtain ⟨u, hu, _⟩ := exec_effect i s; exact ⟨u, hu⟩
  obtain ⟨u, hu⟩ := hex
  exact ⟨u, hu, hostPart_effect hu⟩

/-- Everything a cycle that answers a next state can have done. -/
theorem stepWith_cases {t : Tables} {s u : State} (h : stepWith t s = .next u) :
    (s.portInput.rst = true ∧ u = s.beginCycle.resetEdge) ∨
    (s.portInput.rst = false ∧ ∃ v, TransactionEffect s.beginCycle v ∧
      hostPart exec s.portInput.tx s.beginCycle = .next v ∧
      ((s.op = .idle ∨ s.portInput.stall = true) ∧ u = v ∨
        s.op ≠ .idle ∧ s.portInput.stall = false ∧ v.engineStep t = .next u)) := by
  unfold stepWith runCycle at h
  split at h
  · cases h; exact .inl ⟨‹_›, rfl⟩
  · right
    refine ⟨by simp_all, ?_⟩
    split at h
    · rename_i v hv
      refine ⟨v, hostPart_effect hv, hv, ?_⟩
      unfold enginePart at h
      split at h
      · cases h; exact .inl ⟨‹_›, rfl⟩
      · rename_i hn; simp at hn; exact .inr ⟨hn.1, hn.2, h⟩
    · cases h
    · cases h

/-- A cycle of a busy engine with no reset and an expressible input: the host leaves the engine alone
and the engine steps unless it is held back. -/
theorem stepWith_of_busy (t : Tables) {s : State} (hb : s.op ≠ .idle) (hr : s.portInput.rst = false)
    (hx : s.portInput.expressible = true) :
    ∃ v, TransactionEffect s.beginCycle v ∧
      stepWith t s = if s.portInput.stall then .next v else v.engineStep t := by
  obtain ⟨v, hv, he⟩ := hostPart_of_expressible s.portInput s.beginCycle hx
  exact ⟨v, he, by simp [stepWith, runCycle, hr, hv, enginePart, hb]⟩

/-! ## Runs of cycles -/

@[simp] theorem engineTurns_zero (bus : List PortInput) : engineTurns bus 0 = 0 := rfl

theorem engineTurns_succ (bus : List PortInput) (n : Nat) :
    engineTurns bus (n + 1) = engineTurns bus n + if (inputAt bus n).stall then 0 else 1 := by
  simp only [engineTurns, List.range_succ, List.countP_append]
  cases h : (inputAt bus n).stall <;> simp [h]

theorem engineTurns_mono (bus : List PortInput) {m n : Nat} (h : m ≤ n) :
    engineTurns bus m ≤ engineTurns bus n := by
  induction h with
  | refl => exact le_rfl
  | step _ ih => rw [engineTurns_succ]; omega

/-- The input of cycle `n` is what the ports carry once `n` inputs are used up. -/
theorem headD_drop (bus : List PortInput) (n : Nat) : (bus.drop n).headD {} = inputAt bus n := by
  simp [inputAt, List.headD_eq_head?_getD, List.head?_drop]

/-- One more cycle of a run. -/
theorem runCycles_succ (t : Tables) (n : Nat) {s v : State} (h : runCycles t n s = .next v) :
    runCycles t (n + 1) s = stepWith t v := by
  induction n generalizing s with
  | zero => simp [runCycles] at h ⊢; subst h; cases stepWith t s <;> rfl
  | succ n ih =>
    rw [runCycles] at h ⊢
    cases hs : stepWith t s with
    | next s' => rw [hs] at h; exact ih h
    | fault => rw [hs] at h; cases h
    | refused => rw [hs] at h; cases h

end Sys2Proof.Machine
end

