-- ==== Sys2Proof/Laws/PerInstr.lean ====
section
/-! SUPPORT. Per instruction: the encoder puts every word of an instruction in the instruction's own row of
the opcode table (30_encoding.md R87). -/

namespace Sys2Proof.Laws

/-- The canonical word of `i` has the bits of the table's row named as `i` is. -/
def TableRow.Statement (i : Instr) : Prop :=
  ∃ row ∈ opcodeRows, row.mnemonic = i.mnemonic ∧ row.matches (encode i) = true

/-- Under the mask of W and A, a word is its top five bits. -/
theorem TableRow.top_of_append (a : BitVec 5) (d : Word) : (a ++ d) &&& 0x1F0000#21 = a ++ 0#16 := by
  have h : (0x1F0000#21) = (BitVec.allOnes 5 ++ 0#16 : BitVec (5 + 16)) := by decide
  apply BitVec.eq_of_getLsbD_eq
  intro i hi
  rw [BitVec.getLsbD_and, h, BitVec.getLsbD_append, BitVec.getLsbD_append, BitVec.getLsbD_append]
  split_ifs with h1
  · simp
  · have h5 : i - 16 < 5 := by omega
    rw [BitVec.getLsbD_allOnes, decide_eq_true h5, Bool.and_true]

/-- A write's words are in the row whose value is its top five bits. -/
theorem TableRow.of_top {i : Instr} {a : BitVec 5} {d : Word} (row : TableRow) (hmem : row ∈ opcodeRows)
    (hname : row.mnemonic = i.mnemonic) (henc : encode i = a ++ d) (hmask : row.mask = 0x1F0000#21)
    (hvalue : row.value = a ++ 0#16) : TableRow.Statement i := by
  refine ⟨row, hmem, hname, ?_⟩
  simp only [Sys2Proof.TableRow.matches, henc, hmask, hvalue, decide_eq_true_eq]
  exact TableRow.top_of_append a d

theorem TableRow.nop : TableRow.Statement .nop :=
  ⟨⟨"NOP", 0x100000, 0x1FFFFF⟩, by decide, rfl, by decide⟩
theorem TableRow.keyClear : TableRow.Statement .keyClear :=
  ⟨⟨"KEY_CLEAR", 0x100001, 0x1FFFFF⟩, by decide, rfl, by decide⟩
theorem TableRow.keyCommit : TableRow.Statement .keyCommit :=
  ⟨⟨"KEY_COMMIT", 0x100002, 0x1FFFFF⟩, by decide, rfl, by decide⟩
theorem TableRow.encrypt : TableRow.Statement .encrypt :=
  ⟨⟨"ENCRYPT", 0x100003, 0x1FFFFF⟩, by decide, rfl, by decide⟩
theorem TableRow.decrypt : TableRow.Statement .decrypt :=
  ⟨⟨"DECRYPT", 0x100004, 0x1FFFFF⟩, by decide, rfl, by decide⟩
theorem TableRow.cmdIllegal (d : Word) : TableRow.Statement (.cmdIllegal d) :=
  TableRow.of_top ⟨"CMD_ILLEGAL", 0x100000, 0x1F0000⟩ (by decide) rfl rfl rfl (by decide)
theorem TableRow.wrStatus (d : Word) : TableRow.Statement (.wrStatus d) :=
  TableRow.of_top ⟨"WR_STATUS", 0x110000, 0x1F0000⟩ (by decide) rfl rfl rfl (by decide)
theorem TableRow.wrConfig (d : Word) : TableRow.Statement (.wrConfig d) :=
  TableRow.of_top ⟨"WR_CONFIG", 0x120000, 0x1F0000⟩ (by decide) rfl rfl rfl (by decide)
theorem TableRow.wrKeyin (d : Word) : TableRow.Statement (.wrKeyin d) :=
  TableRow.of_top ⟨"WR_KEYIN", 0x130000, 0x1F0000⟩ (by decide) rfl rfl rfl (by decide)
theorem TableRow.wrKeylen (d : Word) : TableRow.Statement (.wrKeylen d) :=
  TableRow.of_top ⟨"WR_KEYLEN", 0x140000, 0x1F0000⟩ (by decide) rfl rfl rfl (by decide)
theorem TableRow.wrDin0 (d : Word) : TableRow.Statement (.wrDin0 d) :=
  TableRow.of_top ⟨"WR_DIN0", 0x150000, 0x1F0000⟩ (by decide) rfl rfl rfl (by decide)
theorem TableRow.wrDin1 (d : Word) : TableRow.Statement (.wrDin1 d) :=
  TableRow.of_top ⟨"WR_DIN1", 0x160000, 0x1F0000⟩ (by decide) rfl rfl rfl (by decide)
theorem TableRow.wrDout0 (d : Word) : TableRow.Statement (.wrDout0 d) :=
  TableRow.of_top ⟨"WR_DOUT0", 0x170000, 0x1F0000⟩ (by decide) rfl rfl rfl (by decide)
theorem TableRow.wrDout1 (d : Word) : TableRow.Statement (.wrDout1 d) :=
  TableRow.of_top ⟨"WR_DOUT1", 0x180000, 0x1F0000⟩ (by decide) rfl rfl rfl (by decide)
theorem TableRow.wrRksel (d : Word) : TableRow.Statement (.wrRksel d) :=
  TableRow.of_top ⟨"WR_RKSEL", 0x190000, 0x1F0000⟩ (by decide) rfl rfl rfl (by decide)
theorem TableRow.wrRkdata (d : Word) : TableRow.Statement (.wrRkdata d) :=
  TableRow.of_top ⟨"WR_RKDATA", 0x1A0000, 0x1F0000⟩ (by decide) rfl rfl rfl (by decide)
theorem TableRow.wrRounds (d : Word) : TableRow.Statement (.wrRounds d) :=
  TableRow.of_top ⟨"WR_ROUNDS", 0x1B0000, 0x1F0000⟩ (by decide) rfl rfl rfl (by decide)
theorem TableRow.wrRsvdC (d : Word) : TableRow.Statement (.wrRsvdC d) :=
  TableRow.of_top ⟨"WR_RSVD_C", 0x1C0000, 0x1F0000⟩ (by decide) rfl rfl rfl (by decide)
theorem TableRow.wrRsvdD (d : Word) : TableRow.Statement (.wrRsvdD d) :=
  TableRow.of_top ⟨"WR_RSVD_D", 0x1D0000, 0x1F0000⟩ (by decide) rfl rfl rfl (by decide)
theorem TableRow.wrRsvdE (d : Word) : TableRow.Statement (.wrRsvdE d) :=
  TableRow.of_top ⟨"WR_RSVD_E", 0x1E0000, 0x1F0000⟩ (by decide) rfl rfl rfl (by decide)
theorem TableRow.wrRsvdF (d : Word) : TableRow.Statement (.wrRsvdF d) :=
  TableRow.of_top ⟨"WR_RSVD_F", 0x1F0000, 0x1F0000⟩ (by decide) rfl rfl rfl (by decide)
theorem TableRow.rdCmd : TableRow.Statement .rdCmd :=
  ⟨⟨"RD_CMD", 0x000000, 0x1F0000⟩, by decide, rfl, by decide⟩
theorem TableRow.rdStatus : TableRow.Statement .rdStatus :=
  ⟨⟨"RD_STATUS", 0x010000, 0x1F0000⟩, by decide, rfl, by decide⟩
theorem TableRow.rdConfig : TableRow.Statement .rdConfig :=
  ⟨⟨"RD_CONFIG", 0x020000, 0x1F0000⟩, by decide, rfl, by decide⟩
theorem TableRow.rdKeyin : TableRow.Statement .rdKeyin :=
  ⟨⟨"RD_KEYIN", 0x030000, 0x1F0000⟩, by decide, rfl, by decide⟩
theorem TableRow.rdKeylen : TableRow.Statement .rdKeylen :=
  ⟨⟨"RD_KEYLEN", 0x040000, 0x1F0000⟩, by decide, rfl, by decide⟩
theorem TableRow.rdDin0 : TableRow.Statement .rdDin0 :=
  ⟨⟨"RD_DIN0", 0x050000, 0x1F0000⟩, by decide, rfl, by decide⟩
theorem TableRow.rdDin1 : TableRow.Statement .rdDin1 :=
  ⟨⟨"RD_DIN1", 0x060000, 0x1F0000⟩, by decide, rfl, by decide⟩
theorem TableRow.rdDout0 : TableRow.Statement .rdDout0 :=
  ⟨⟨"RD_DOUT0", 0x070000, 0x1F0000⟩, by decide, rfl, by decide⟩
theorem TableRow.rdDout1 : TableRow.Statement .rdDout1 :=
  ⟨⟨"RD_DOUT1", 0x080000, 0x1F0000⟩, by decide, rfl, by decide⟩
theorem TableRow.rdRksel : TableRow.Statement .rdRksel :=
  ⟨⟨"RD_RKSEL", 0x090000, 0x1F0000⟩, by decide, rfl, by decide⟩
theorem TableRow.rdRkdata : TableRow.Statement .rdRkdata :=
  ⟨⟨"RD_RKDATA", 0x0A0000, 0x1F0000⟩, by decide, rfl, by decide⟩
theorem TableRow.rdRounds : TableRow.Statement .rdRounds :=
  ⟨⟨"RD_ROUNDS", 0x0B0000, 0x1F0000⟩, by decide, rfl, by decide⟩
theorem TableRow.rdRsvdC : TableRow.Statement .rdRsvdC :=
  ⟨⟨"RD_RSVD_C", 0x0C0000, 0x1F0000⟩, by decide, rfl, by decide⟩
theorem TableRow.rdRsvdD : TableRow.Statement .rdRsvdD :=
  ⟨⟨"RD_RSVD_D", 0x0D0000, 0x1F0000⟩, by decide, rfl, by decide⟩
theorem TableRow.rdRsvdE : TableRow.Statement .rdRsvdE :=
  ⟨⟨"RD_RSVD_E", 0x0E0000, 0x1F0000⟩, by decide, rfl, by decide⟩
theorem TableRow.rdRsvdF : TableRow.Statement .rdRsvdF :=
  ⟨⟨"RD_RSVD_F", 0x0F0000, 0x1F0000⟩, by decide, rfl, by decide⟩

end Sys2Proof.Laws
end

