-- ==== Sys2Proof/Laws/State.lean ====
section
/-! SUPPORT. One lemma per field per update of the state. Those of the record updates hold by rfl. -/

namespace Sys2Proof.Machine

/-! ## raiseError -/

@[simp] theorem State.raiseError_l (c : ErrorCode) (s : State) : (s.raiseError c).l = s.l := rfl
@[simp] theorem State.raiseError_r (c : ErrorCode) (s : State) : (s.raiseError c).r = s.r := rfl
@[simp] theorem State.raiseError_rc (c : ErrorCode) (s : State) : (s.raiseError c).rc = s.rc := rfl
@[simp] theorem State.raiseError_kp (c : ErrorCode) (s : State) : (s.raiseError c).kp = s.kp := rfl
@[simp] theorem State.raiseError_op (c : ErrorCode) (s : State) : (s.raiseError c).op = s.op := rfl
@[simp] theorem State.raiseError_mkey (c : ErrorCode) (s : State) : (s.raiseError c).mkey = s.mkey := rfl
@[simp] theorem State.raiseError_keylen (c : ErrorCode) (s : State) : (s.raiseError c).keylen = s.keylen := rfl
@[simp] theorem State.raiseError_rkey (c : ErrorCode) (s : State) : (s.raiseError c).rkey = s.rkey := rfl
@[simp] theorem State.raiseError_keyvalid (c : ErrorCode) (s : State) : (s.raiseError c).keyvalid = s.keyvalid := rfl
@[simp] theorem State.raiseError_din0 (c : ErrorCode) (s : State) : (s.raiseError c).din0 = s.din0 := rfl
@[simp] theorem State.raiseError_din1 (c : ErrorCode) (s : State) : (s.raiseError c).din1 = s.din1 := rfl
@[simp] theorem State.raiseError_dout0 (c : ErrorCode) (s : State) : (s.raiseError c).dout0 = s.dout0 := rfl
@[simp] theorem State.raiseError_dout1 (c : ErrorCode) (s : State) : (s.raiseError c).dout1 = s.dout1 := rfl
@[simp] theorem State.raiseError_ie (c : ErrorCode) (s : State) : (s.raiseError c).ie = s.ie := rfl
@[simp] theorem State.raiseError_done (c : ErrorCode) (s : State) : (s.raiseError c).done = s.done := rfl
@[simp] theorem State.raiseError_err (c : ErrorCode) (s : State) : (s.raiseError c).err = true := rfl
@[simp] theorem State.raiseError_errcode (c : ErrorCode) (s : State) : (s.raiseError c).errcode = (if s.err then s.errcode else c.bits) := rfl
@[simp] theorem State.raiseError_rksel (c : ErrorCode) (s : State) : (s.raiseError c).rksel = s.rksel := rfl
@[simp] theorem State.raiseError_rdata (c : ErrorCode) (s : State) : (s.raiseError c).rdata = s.rdata := rfl
@[simp] theorem State.raiseError_bus (c : ErrorCode) (s : State) : (s.raiseError c).bus = s.bus := rfl

/-! ## clearError -/

@[simp] theorem State.clearError_l (clears : Bool) (s : State) : (s.clearError clears).l = s.l := rfl
@[simp] theorem State.clearError_r (clears : Bool) (s : State) : (s.clearError clears).r = s.r := rfl
@[simp] theorem State.clearError_rc (clears : Bool) (s : State) : (s.clearError clears).rc = s.rc := rfl
@[simp] theorem State.clearError_kp (clears : Bool) (s : State) : (s.clearError clears).kp = s.kp := rfl
@[simp] theorem State.clearError_op (clears : Bool) (s : State) : (s.clearError clears).op = s.op := rfl
@[simp] theorem State.clearError_mkey (clears : Bool) (s : State) : (s.clearError clears).mkey = s.mkey := rfl
@[simp] theorem State.clearError_keylen (clears : Bool) (s : State) : (s.clearError clears).keylen = s.keylen := rfl
@[simp] theorem State.clearError_rkey (clears : Bool) (s : State) : (s.clearError clears).rkey = s.rkey := rfl
@[simp] theorem State.clearError_keyvalid (clears : Bool) (s : State) : (s.clearError clears).keyvalid = s.keyvalid := rfl
@[simp] theorem State.clearError_din0 (clears : Bool) (s : State) : (s.clearError clears).din0 = s.din0 := rfl
@[simp] theorem State.clearError_din1 (clears : Bool) (s : State) : (s.clearError clears).din1 = s.din1 := rfl
@[simp] theorem State.clearError_dout0 (clears : Bool) (s : State) : (s.clearError clears).dout0 = s.dout0 := rfl
@[simp] theorem State.clearError_dout1 (clears : Bool) (s : State) : (s.clearError clears).dout1 = s.dout1 := rfl
@[simp] theorem State.clearError_ie (clears : Bool) (s : State) : (s.clearError clears).ie = s.ie := rfl
@[simp] theorem State.clearError_done (clears : Bool) (s : State) : (s.clearError clears).done = s.done := rfl
@[simp] theorem State.clearError_err (clears : Bool) (s : State) : (s.clearError clears).err = (s.err && !clears) := rfl
@[simp] theorem State.clearError_errcode (clears : Bool) (s : State) : (s.clearError clears).errcode = (if clears then 0 else s.errcode) := rfl
@[simp] theorem State.clearError_rksel (clears : Bool) (s : State) : (s.clearError clears).rksel = s.rksel := rfl
@[simp] theorem State.clearError_rdata (clears : Bool) (s : State) : (s.clearError clears).rdata = s.rdata := rfl
@[simp] theorem State.clearError_bus (clears : Bool) (s : State) : (s.clearError clears).bus = s.bus := rfl

/-! ## setDone -/

@[simp] theorem State.setDone_l (s : State) : s.setDone.l = s.l := rfl
@[simp] theorem State.setDone_r (s : State) : s.setDone.r = s.r := rfl
@[simp] theorem State.setDone_rc (s : State) : s.setDone.rc = s.rc := rfl
@[simp] theorem State.setDone_kp (s : State) : s.setDone.kp = s.kp := rfl
@[simp] theorem State.setDone_op (s : State) : s.setDone.op = s.op := rfl
@[simp] theorem State.setDone_mkey (s : State) : s.setDone.mkey = s.mkey := rfl
@[simp] theorem State.setDone_keylen (s : State) : s.setDone.keylen = s.keylen := rfl
@[simp] theorem State.setDone_rkey (s : State) : s.setDone.rkey = s.rkey := rfl
@[simp] theorem State.setDone_keyvalid (s : State) : s.setDone.keyvalid = s.keyvalid := rfl
@[simp] theorem State.setDone_din0 (s : State) : s.setDone.din0 = s.din0 := rfl
@[simp] theorem State.setDone_din1 (s : State) : s.setDone.din1 = s.din1 := rfl
@[simp] theorem State.setDone_dout0 (s : State) : s.setDone.dout0 = s.dout0 := rfl
@[simp] theorem State.setDone_dout1 (s : State) : s.setDone.dout1 = s.dout1 := rfl
@[simp] theorem State.setDone_ie (s : State) : s.setDone.ie = s.ie := rfl
@[simp] theorem State.setDone_done (s : State) : s.setDone.done = true := rfl
@[simp] theorem State.setDone_err (s : State) : s.setDone.err = s.err := rfl
@[simp] theorem State.setDone_errcode (s : State) : s.setDone.errcode = s.errcode := rfl
@[simp] theorem State.setDone_rksel (s : State) : s.setDone.rksel = s.rksel := rfl
@[simp] theorem State.setDone_rdata (s : State) : s.setDone.rdata = s.rdata := rfl
@[simp] theorem State.setDone_bus (s : State) : s.setDone.bus = s.bus := rfl

/-! ## clearDone -/

@[simp] theorem State.clearDone_l (clears : Bool) (s : State) : (s.clearDone clears).l = s.l := rfl
@[simp] theorem State.clearDone_r (clears : Bool) (s : State) : (s.clearDone clears).r = s.r := rfl
@[simp] theorem State.clearDone_rc (clears : Bool) (s : State) : (s.clearDone clears).rc = s.rc := rfl
@[simp] theorem State.clearDone_kp (clears : Bool) (s : State) : (s.clearDone clears).kp = s.kp := rfl
@[simp] theorem State.clearDone_op (clears : Bool) (s : State) : (s.clearDone clears).op = s.op := rfl
@[simp] theorem State.clearDone_mkey (clears : Bool) (s : State) : (s.clearDone clears).mkey = s.mkey := rfl
@[simp] theorem State.clearDone_keylen (clears : Bool) (s : State) : (s.clearDone clears).keylen = s.keylen := rfl
@[simp] theorem State.clearDone_rkey (clears : Bool) (s : State) : (s.clearDone clears).rkey = s.rkey := rfl
@[simp] theorem State.clearDone_keyvalid (clears : Bool) (s : State) : (s.clearDone clears).keyvalid = s.keyvalid := rfl
@[simp] theorem State.clearDone_din0 (clears : Bool) (s : State) : (s.clearDone clears).din0 = s.din0 := rfl
@[simp] theorem State.clearDone_din1 (clears : Bool) (s : State) : (s.clearDone clears).din1 = s.din1 := rfl
@[simp] theorem State.clearDone_dout0 (clears : Bool) (s : State) : (s.clearDone clears).dout0 = s.dout0 := rfl
@[simp] theorem State.clearDone_dout1 (clears : Bool) (s : State) : (s.clearDone clears).dout1 = s.dout1 := rfl
@[simp] theorem State.clearDone_ie (clears : Bool) (s : State) : (s.clearDone clears).ie = s.ie := rfl
@[simp] theorem State.clearDone_done (clears : Bool) (s : State) : (s.clearDone clears).done = (s.done && !clears) := rfl
@[simp] theorem State.clearDone_err (clears : Bool) (s : State) : (s.clearDone clears).err = s.err := rfl
@[simp] theorem State.clearDone_errcode (clears : Bool) (s : State) : (s.clearDone clears).errcode = s.errcode := rfl
@[simp] theorem State.clearDone_rksel (clears : Bool) (s : State) : (s.clearDone clears).rksel = s.rksel := rfl
@[simp] theorem State.clearDone_rdata (clears : Bool) (s : State) : (s.clearDone clears).rdata = s.rdata := rfl
@[simp] theorem State.clearDone_bus (clears : Bool) (s : State) : (s.clearDone clears).bus = s.bus := rfl

/-! ## clearKey -/

@[simp] theorem State.clearKey_l (s : State) : s.clearKey.l = s.l := rfl
@[simp] theorem State.clearKey_r (s : State) : s.clearKey.r = s.r := rfl
@[simp] theorem State.clearKey_rc (s : State) : s.clearKey.rc = s.rc := rfl
@[simp] theorem State.clearKey_kp (s : State) : s.clearKey.kp = s.kp := rfl
@[simp] theorem State.clearKey_op (s : State) : s.clearKey.op = s.op := rfl
@[simp] theorem State.clearKey_mkey (s : State) : s.clearKey.mkey = s.mkey := rfl
@[simp] theorem State.clearKey_keylen (s : State) : s.clearKey.keylen = 0 := rfl
@[simp] theorem State.clearKey_rkey (s : State) : s.clearKey.rkey = s.rkey := rfl
@[simp] theorem State.clearKey_keyvalid (s : State) : s.clearKey.keyvalid = false := rfl
@[simp] theorem State.clearKey_din0 (s : State) : s.clearKey.din0 = s.din0 := rfl
@[simp] theorem State.clearKey_din1 (s : State) : s.clearKey.din1 = s.din1 := rfl
@[simp] theorem State.clearKey_dout0 (s : State) : s.clearKey.dout0 = s.dout0 := rfl
@[simp] theorem State.clearKey_dout1 (s : State) : s.clearKey.dout1 = s.dout1 := rfl
@[simp] theorem State.clearKey_ie (s : State) : s.clearKey.ie = s.ie := rfl
@[simp] theorem State.clearKey_done (s : State) : s.clearKey.done = true := rfl
@[simp] theorem State.clearKey_err (s : State) : s.clearKey.err = s.err := rfl
@[simp] theorem State.clearKey_errcode (s : State) : s.clearKey.errcode = s.errcode := rfl
@[simp] theorem State.clearKey_rksel (s : State) : s.clearKey.rksel = s.rksel := rfl
@[simp] theorem State.clearKey_rdata (s : State) : s.clearKey.rdata = s.rdata := rfl
@[simp] theorem State.clearKey_bus (s : State) : s.clearKey.bus = s.bus := rfl

/-! ## startCommit -/

@[simp] theorem State.startCommit_l (s : State) : s.startCommit.l = s.l := rfl
@[simp] theorem State.startCommit_r (s : State) : s.startCommit.r = s.r := rfl
@[simp] theorem State.startCommit_rc (s : State) : s.startCommit.rc = 0 := rfl
@[simp] theorem State.startCommit_kp (s : State) : s.startCommit.kp = 0 := rfl
@[simp] theorem State.startCommit_op (s : State) : s.startCommit.op = .commit := rfl
@[simp] theorem State.startCommit_mkey (s : State) : s.startCommit.mkey = s.mkey := rfl
@[simp] theorem State.startCommit_keylen (s : State) : s.startCommit.keylen = s.keylen := rfl
@[simp] theorem State.startCommit_rkey (s : State) : s.startCommit.rkey = s.rkey := rfl
@[simp] theorem State.startCommit_keyvalid (s : State) : s.startCommit.keyvalid = false := rfl
@[simp] theorem State.startCommit_din0 (s : State) : s.startCommit.din0 = s.din0 := rfl
@[simp] theorem State.startCommit_din1 (s : State) : s.startCommit.din1 = s.din1 := rfl
@[simp] theorem State.startCommit_dout0 (s : State) : s.startCommit.dout0 = s.dout0 := rfl
@[simp] theorem State.startCommit_dout1 (s : State) : s.startCommit.dout1 = s.dout1 := rfl
@[simp] theorem State.startCommit_ie (s : State) : s.startCommit.ie = s.ie := rfl
@[simp] theorem State.startCommit_done (s : State) : s.startCommit.done = false := rfl
@[simp] theorem State.startCommit_err (s : State) : s.startCommit.err = s.err := rfl
@[simp] theorem State.startCommit_errcode (s : State) : s.startCommit.errcode = s.errcode := rfl
@[simp] theorem State.startCommit_rksel (s : State) : s.startCommit.rksel = s.rksel := rfl
@[simp] theorem State.startCommit_rdata (s : State) : s.startCommit.rdata = s.rdata := rfl
@[simp] theorem State.startCommit_bus (s : State) : s.startCommit.bus = s.bus := rfl

/-! ## startEncrypt -/

@[simp] theorem State.startEncrypt_l (s : State) : s.startEncrypt.l = s.din0 := rfl
@[simp] theorem State.startEncrypt_r (s : State) : s.startEncrypt.r = s.din1 := rfl
@[simp] theorem State.startEncrypt_rc (s : State) : s.startEncrypt.rc = 0 := rfl
@[simp] theorem State.startEncrypt_kp (s : State) : s.startEncrypt.kp = s.kp := rfl
@[simp] theorem State.startEncrypt_op (s : State) : s.startEncrypt.op = .enc := rfl
@[simp] theorem State.startEncrypt_mkey (s : State) : s.startEncrypt.mkey = s.mkey := rfl
@[simp] theorem State.startEncrypt_keylen (s : State) : s.startEncrypt.keylen = s.keylen := rfl
@[simp] theorem State.startEncrypt_rkey (s : State) : s.startEncrypt.rkey = s.rkey := rfl
@[simp] theorem State.startEncrypt_keyvalid (s : State) : s.startEncrypt.keyvalid = s.keyvalid := rfl
@[simp] theorem State.startEncrypt_din0 (s : State) : s.startEncrypt.din0 = s.din0 := rfl
@[simp] theorem State.startEncrypt_din1 (s : State) : s.startEncrypt.din1 = s.din1 := rfl
@[simp] theorem State.startEncrypt_dout0 (s : State) : s.startEncrypt.dout0 = s.dout0 := rfl
@[simp] theorem State.startEncrypt_dout1 (s : State) : s.startEncrypt.dout1 = s.dout1 := rfl
@[simp] theorem State.startEncrypt_ie (s : State) : s.startEncrypt.ie = s.ie := rfl
@[simp] theorem State.startEncrypt_done (s : State) : s.startEncrypt.done = false := rfl
@[simp] theorem State.startEncrypt_err (s : State) : s.startEncrypt.err = s.err := rfl
@[simp] theorem State.startEncrypt_errcode (s : State) : s.startEncrypt.errcode = s.errcode := rfl
@[simp] theorem State.startEncrypt_rksel (s : State) : s.startEncrypt.rksel = s.rksel := rfl
@[simp] theorem State.startEncrypt_rdata (s : State) : s.startEncrypt.rdata = s.rdata := rfl
@[simp] theorem State.startEncrypt_bus (s : State) : s.startEncrypt.bus = s.bus := rfl

/-! ## startDecrypt -/

@[simp] theorem State.startDecrypt_l (s : State) : s.startDecrypt.l = s.din1 := rfl
@[simp] theorem State.startDecrypt_r (s : State) : s.startDecrypt.r = s.din0 := rfl
@[simp] theorem State.startDecrypt_rc (s : State) : s.startDecrypt.rc = 35 := rfl
@[simp] theorem State.startDecrypt_kp (s : State) : s.startDecrypt.kp = s.kp := rfl
@[simp] theorem State.startDecrypt_op (s : State) : s.startDecrypt.op = .dec := rfl
@[simp] theorem State.startDecrypt_mkey (s : State) : s.startDecrypt.mkey = s.mkey := rfl
@[simp] theorem State.startDecrypt_keylen (s : State) : s.startDecrypt.keylen = s.keylen := rfl
@[simp] theorem State.startDecrypt_rkey (s : State) : s.startDecrypt.rkey = s.rkey := rfl
@[simp] theorem State.startDecrypt_keyvalid (s : State) : s.startDecrypt.keyvalid = s.keyvalid := rfl
@[simp] theorem State.startDecrypt_din0 (s : State) : s.startDecrypt.din0 = s.din0 := rfl
@[simp] theorem State.startDecrypt_din1 (s : State) : s.startDecrypt.din1 = s.din1 := rfl
@[simp] theorem State.startDecrypt_dout0 (s : State) : s.startDecrypt.dout0 = s.dout0 := rfl
@[simp] theorem State.startDecrypt_dout1 (s : State) : s.startDecrypt.dout1 = s.dout1 := rfl
@[simp] theorem State.startDecrypt_ie (s : State) : s.startDecrypt.ie = s.ie := rfl
@[simp] theorem State.startDecrypt_done (s : State) : s.startDecrypt.done = false := rfl
@[simp] theorem State.startDecrypt_err (s : State) : s.startDecrypt.err = s.err := rfl
@[simp] theorem State.startDecrypt_errcode (s : State) : s.startDecrypt.errcode = s.errcode := rfl
@[simp] theorem State.startDecrypt_rksel (s : State) : s.startDecrypt.rksel = s.rksel := rfl
@[simp] theorem State.startDecrypt_rdata (s : State) : s.startDecrypt.rdata = s.rdata := rfl
@[simp] theorem State.startDecrypt_bus (s : State) : s.startDecrypt.bus = s.bus := rfl

/-! ## readOut -/

@[simp] theorem State.readOut_l (v : Word) (s : State) : (s.readOut v).l = s.l := rfl
@[simp] theorem State.readOut_r (v : Word) (s : State) : (s.readOut v).r = s.r := rfl
@[simp] theorem State.readOut_rc (v : Word) (s : State) : (s.readOut v).rc = s.rc := rfl
@[simp] theorem State.readOut_kp (v : Word) (s : State) : (s.readOut v).kp = s.kp := rfl
@[simp] theorem State.readOut_op (v : Word) (s : State) : (s.readOut v).op = s.op := rfl
@[simp] theorem State.readOut_mkey (v : Word) (s : State) : (s.readOut v).mkey = s.mkey := rfl
@[simp] theorem State.readOut_keylen (v : Word) (s : State) : (s.readOut v).keylen = s.keylen := rfl
@[simp] theorem State.readOut_rkey (v : Word) (s : State) : (s.readOut v).rkey = s.rkey := rfl
@[simp] theorem State.readOut_keyvalid (v : Word) (s : State) : (s.readOut v).keyvalid = s.keyvalid := rfl
@[simp] theorem State.readOut_din0 (v : Word) (s : State) : (s.readOut v).din0 = s.din0 := rfl
@[simp] theorem State.readOut_din1 (v : Word) (s : State) : (s.readOut v).din1 = s.din1 := rfl
@[simp] theorem State.readOut_dout0 (v : Word) (s : State) : (s.readOut v).dout0 = s.dout0 := rfl
@[simp] theorem State.readOut_dout1 (v : Word) (s : State) : (s.readOut v).dout1 = s.dout1 := rfl
@[simp] theorem State.readOut_ie (v : Word) (s : State) : (s.readOut v).ie = s.ie := rfl
@[simp] theorem State.readOut_done (v : Word) (s : State) : (s.readOut v).done = s.done := rfl
@[simp] theorem State.readOut_err (v : Word) (s : State) : (s.readOut v).err = s.err := rfl
@[simp] theorem State.readOut_errcode (v : Word) (s : State) : (s.readOut v).errcode = s.errcode := rfl
@[simp] theorem State.readOut_rksel (v : Word) (s : State) : (s.readOut v).rksel = s.rksel := rfl
@[simp] theorem State.readOut_rdata (v : Word) (s : State) : (s.readOut v).rdata = v := rfl
@[simp] theorem State.readOut_bus (v : Word) (s : State) : (s.readOut v).bus = s.bus := rfl

/-! ## writeStatus -/

@[simp] theorem State.writeStatus_l (d : Word) (s : State) : (s.writeStatus d).l = s.l := rfl
@[simp] theorem State.writeStatus_r (d : Word) (s : State) : (s.writeStatus d).r = s.r := rfl
@[simp] theorem State.writeStatus_rc (d : Word) (s : State) : (s.writeStatus d).rc = s.rc := rfl
@[simp] theorem State.writeStatus_kp (d : Word) (s : State) : (s.writeStatus d).kp = s.kp := rfl
@[simp] theorem State.writeStatus_op (d : Word) (s : State) : (s.writeStatus d).op = s.op := rfl
@[simp] theorem State.writeStatus_mkey (d : Word) (s : State) : (s.writeStatus d).mkey = s.mkey := rfl
@[simp] theorem State.writeStatus_keylen (d : Word) (s : State) : (s.writeStatus d).keylen = s.keylen := rfl
@[simp] theorem State.writeStatus_rkey (d : Word) (s : State) : (s.writeStatus d).rkey = s.rkey := rfl
@[simp] theorem State.writeStatus_keyvalid (d : Word) (s : State) : (s.writeStatus d).keyvalid = s.keyvalid := rfl
@[simp] theorem State.writeStatus_din0 (d : Word) (s : State) : (s.writeStatus d).din0 = s.din0 := rfl
@[simp] theorem State.writeStatus_din1 (d : Word) (s : State) : (s.writeStatus d).din1 = s.din1 := rfl
@[simp] theorem State.writeStatus_dout0 (d : Word) (s : State) : (s.writeStatus d).dout0 = s.dout0 := rfl
@[simp] theorem State.writeStatus_dout1 (d : Word) (s : State) : (s.writeStatus d).dout1 = s.dout1 := rfl
@[simp] theorem State.writeStatus_ie (d : Word) (s : State) : (s.writeStatus d).ie = s.ie := rfl
@[simp] theorem State.writeStatus_done (d : Word) (s : State) : (s.writeStatus d).done = (s.done && !statusClearsDone d) := rfl
@[simp] theorem State.writeStatus_err (d : Word) (s : State) : (s.writeStatus d).err = (s.err && !statusClearsErr d) := rfl
@[simp] theorem State.writeStatus_errcode (d : Word) (s : State) : (s.writeStatus d).errcode = (if statusClearsErr d then 0 else s.errcode) := rfl
@[simp] theorem State.writeStatus_rksel (d : Word) (s : State) : (s.writeStatus d).rksel = s.rksel := rfl
@[simp] theorem State.writeStatus_rdata (d : Word) (s : State) : (s.writeStatus d).rdata = s.rdata := rfl
@[simp] theorem State.writeStatus_bus (d : Word) (s : State) : (s.writeStatus d).bus = s.bus := rfl

/-! ## beginCycle -/

@[simp] theorem State.beginCycle_l (s : State) : s.beginCycle.l = s.l := rfl
@[simp] theorem State.beginCycle_r (s : State) : s.beginCycle.r = s.r := rfl
@[simp] theorem State.beginCycle_rc (s : State) : s.beginCycle.rc = s.rc := rfl
@[simp] theorem State.beginCycle_kp (s : State) : s.beginCycle.kp = s.kp := rfl
@[simp] theorem State.beginCycle_op (s : State) : s.beginCycle.op = s.op := rfl
@[simp] theorem State.beginCycle_mkey (s : State) : s.beginCycle.mkey = s.mkey := rfl
@[simp] theorem State.beginCycle_keylen (s : State) : s.beginCycle.keylen = s.keylen := rfl
@[simp] theorem State.beginCycle_rkey (s : State) : s.beginCycle.rkey = s.rkey := rfl
@[simp] theorem State.beginCycle_keyvalid (s : State) : s.beginCycle.keyvalid = s.keyvalid := rfl
@[simp] theorem State.beginCycle_din0 (s : State) : s.beginCycle.din0 = s.din0 := rfl
@[simp] theorem State.beginCycle_din1 (s : State) : s.beginCycle.din1 = s.din1 := rfl
@[simp] theorem State.beginCycle_dout0 (s : State) : s.beginCycle.dout0 = s.dout0 := rfl
@[simp] theorem State.beginCycle_dout1 (s : State) : s.beginCycle.dout1 = s.dout1 := rfl
@[simp] theorem State.beginCycle_ie (s : State) : s.beginCycle.ie = s.ie := rfl
@[simp] theorem State.beginCycle_done (s : State) : s.beginCycle.done = s.done := rfl
@[simp] theorem State.beginCycle_err (s : State) : s.beginCycle.err = s.err := rfl
@[simp] theorem State.beginCycle_errcode (s : State) : s.beginCycle.errcode = s.errcode := rfl
@[simp] theorem State.beginCycle_rksel (s : State) : s.beginCycle.rksel = s.rksel := rfl
@[simp] theorem State.beginCycle_rdata (s : State) : s.beginCycle.rdata = 0 := rfl
@[simp] theorem State.beginCycle_bus (s : State) : s.beginCycle.bus = s.bus.tail := rfl

/-! ## resetEdge -/

@[simp] theorem State.resetEdge_l (s : State) : s.resetEdge.l = 0 := rfl
@[simp] theorem State.resetEdge_r (s : State) : s.resetEdge.r = 0 := rfl
@[simp] theorem State.resetEdge_rc (s : State) : s.resetEdge.rc = 0 := rfl
@[simp] theorem State.resetEdge_kp (s : State) : s.resetEdge.kp = 0 := rfl
@[simp] theorem State.resetEdge_op (s : State) : s.resetEdge.op = .idle := rfl
@[simp] theorem State.resetEdge_mkey (s : State) : s.resetEdge.mkey = Vector.replicate 36 0 := rfl
@[simp] theorem State.resetEdge_keylen (s : State) : s.resetEdge.keylen = 0 := rfl
@[simp] theorem State.resetEdge_rkey (s : State) : s.resetEdge.rkey = Vector.replicate 36 0 := rfl
@[simp] theorem State.resetEdge_keyvalid (s : State) : s.resetEdge.keyvalid = false := rfl
@[simp] theorem State.resetEdge_din0 (s : State) : s.resetEdge.din0 = 0 := rfl
@[simp] theorem State.resetEdge_din1 (s : State) : s.resetEdge.din1 = 0 := rfl
@[simp] theorem State.resetEdge_dout0 (s : State) : s.resetEdge.dout0 = 0 := rfl
@[simp] theorem State.resetEdge_dout1 (s : State) : s.resetEdge.dout1 = 0 := rfl
@[simp] theorem State.resetEdge_ie (s : State) : s.resetEdge.ie = false := rfl
@[simp] theorem State.resetEdge_done (s : State) : s.resetEdge.done = false := rfl
@[simp] theorem State.resetEdge_err (s : State) : s.resetEdge.err = false := rfl
@[simp] theorem State.resetEdge_errcode (s : State) : s.resetEdge.errcode = 0 := rfl
@[simp] theorem State.resetEdge_rksel (s : State) : s.resetEdge.rksel = 0 := rfl
@[simp] theorem State.resetEdge_rdata (s : State) : s.resetEdge.rdata = 0 := rfl
@[simp] theorem State.resetEdge_bus (s : State) : s.resetEdge.bus = s.bus := rfl

/-! ## present -/

@[simp] theorem State.present_l (p : PortInput) (s : State) : (s.present p).l = s.l := rfl
@[simp] theorem State.present_r (p : PortInput) (s : State) : (s.present p).r = s.r := rfl
@[simp] theorem State.present_rc (p : PortInput) (s : State) : (s.present p).rc = s.rc := rfl
@[simp] theorem State.present_kp (p : PortInput) (s : State) : (s.present p).kp = s.kp := rfl
@[simp] theorem State.present_op (p : PortInput) (s : State) : (s.present p).op = s.op := rfl
@[simp] theorem State.present_mkey (p : PortInput) (s : State) : (s.present p).mkey = s.mkey := rfl
@[simp] theorem State.present_keylen (p : PortInput) (s : State) : (s.present p).keylen = s.keylen := rfl
@[simp] theorem State.present_rkey (p : PortInput) (s : State) : (s.present p).rkey = s.rkey := rfl
@[simp] theorem State.present_keyvalid (p : PortInput) (s : State) : (s.present p).keyvalid = s.keyvalid := rfl
@[simp] theorem State.present_din0 (p : PortInput) (s : State) : (s.present p).din0 = s.din0 := rfl
@[simp] theorem State.present_din1 (p : PortInput) (s : State) : (s.present p).din1 = s.din1 := rfl
@[simp] theorem State.present_dout0 (p : PortInput) (s : State) : (s.present p).dout0 = s.dout0 := rfl
@[simp] theorem State.present_dout1 (p : PortInput) (s : State) : (s.present p).dout1 = s.dout1 := rfl
@[simp] theorem State.present_ie (p : PortInput) (s : State) : (s.present p).ie = s.ie := rfl
@[simp] theorem State.present_done (p : PortInput) (s : State) : (s.present p).done = s.done := rfl
@[simp] theorem State.present_err (p : PortInput) (s : State) : (s.present p).err = s.err := rfl
@[simp] theorem State.present_errcode (p : PortInput) (s : State) : (s.present p).errcode = s.errcode := rfl
@[simp] theorem State.present_rksel (p : PortInput) (s : State) : (s.present p).rksel = s.rksel := rfl
@[simp] theorem State.present_rdata (p : PortInput) (s : State) : (s.present p).rdata = s.rdata := rfl
@[simp] theorem State.present_bus (p : PortInput) (s : State) : (s.present p).bus = p :: s.bus := rfl

/-! ## pushKey -/

@[simp] theorem State.pushKey_l (d : Word) (s : State) : (s.pushKey d).l = s.l := by
  unfold State.pushKey; split <;> rfl
@[simp] theorem State.pushKey_r (d : Word) (s : State) : (s.pushKey d).r = s.r := by
  unfold State.pushKey; split <;> rfl
@[simp] theorem State.pushKey_rc (d : Word) (s : State) : (s.pushKey d).rc = s.rc := by
  unfold State.pushKey; split <;> rfl
@[simp] theorem State.pushKey_kp (d : Word) (s : State) : (s.pushKey d).kp = s.kp := by
  unfold State.pushKey; split <;> rfl
@[simp] theorem State.pushKey_op (d : Word) (s : State) : (s.pushKey d).op = s.op := by
  unfold State.pushKey; split <;> rfl
@[simp] theorem State.pushKey_rkey (d : Word) (s : State) : (s.pushKey d).rkey = s.rkey := by
  unfold State.pushKey; split <;> rfl
@[simp] theorem State.pushKey_keyvalid (d : Word) (s : State) : (s.pushKey d).keyvalid = s.keyvalid := by
  unfold State.pushKey; split <;> rfl
@[simp] theorem State.pushKey_din0 (d : Word) (s : State) : (s.pushKey d).din0 = s.din0 := by
  unfold State.pushKey; split <;> rfl
@[simp] theorem State.pushKey_din1 (d : Word) (s : State) : (s.pushKey d).din1 = s.din1 := by
  unfold State.pushKey; split <;> rfl
@[simp] theorem State.pushKey_dout0 (d : Word) (s : State) : (s.pushKey d).dout0 = s.dout0 := by
  unfold State.pushKey; split <;> rfl
@[simp] theorem State.pushKey_dout1 (d : Word) (s : State) : (s.pushKey d).dout1 = s.dout1 := by
  unfold State.pushKey; split <;> rfl
@[simp] theorem State.pushKey_ie (d : Word) (s : State) : (s.pushKey d).ie = s.ie := by
  unfold State.pushKey; split <;> rfl
@[simp] theorem State.pushKey_done (d : Word) (s : State) : (s.pushKey d).done = s.done := by
  unfold State.pushKey; split <;> rfl
@[simp] theorem State.pushKey_err (d : Word) (s : State) : (s.pushKey d).err = s.err := by
  unfold State.pushKey; split <;> rfl
@[simp] theorem State.pushKey_errcode (d : Word) (s : State) : (s.pushKey d).errcode = s.errcode := by
  unfold State.pushKey; split <;> rfl
@[simp] theorem State.pushKey_rksel (d : Word) (s : State) : (s.pushKey d).rksel = s.rksel := by
  unfold State.pushKey; split <;> rfl
@[simp] theorem State.pushKey_rdata (d : Word) (s : State) : (s.pushKey d).rdata = s.rdata := by
  unfold State.pushKey; split <;> rfl
@[simp] theorem State.pushKey_bus (d : Word) (s : State) : (s.pushKey d).bus = s.bus := by
  unfold State.pushKey; split <;> rfl

/-! ## encStep -/

@[simp] theorem State.encStep_kp (t : Tables) (k : Word) (s : State) : (s.encStep t k).kp = s.kp := by
  unfold State.encStep; dsimp only; split <;> rfl
@[simp] theorem State.encStep_mkey (t : Tables) (k : Word) (s : State) : (s.encStep t k).mkey = s.mkey := by
  unfold State.encStep; dsimp only; split <;> rfl
@[simp] theorem State.encStep_keylen (t : Tables) (k : Word) (s : State) : (s.encStep t k).keylen = s.keylen := by
  unfold State.encStep; dsimp only; split <;> rfl
@[simp] theorem State.encStep_rkey (t : Tables) (k : Word) (s : State) : (s.encStep t k).rkey = s.rkey := by
  unfold State.encStep; dsimp only; split <;> rfl
@[simp] theorem State.encStep_keyvalid (t : Tables) (k : Word) (s : State) : (s.encStep t k).keyvalid = s.keyvalid := by
  unfold State.encStep; dsimp only; split <;> rfl
@[simp] theorem State.encStep_din0 (t : Tables) (k : Word) (s : State) : (s.encStep t k).din0 = s.din0 := by
  unfold State.encStep; dsimp only; split <;> rfl
@[simp] theorem State.encStep_din1 (t : Tables) (k : Word) (s : State) : (s.encStep t k).din1 = s.din1 := by
  unfold State.encStep; dsimp only; split <;> rfl
@[simp] theorem State.encStep_ie (t : Tables) (k : Word) (s : State) : (s.encStep t k).ie = s.ie := by
  unfold State.encStep; dsimp only; split <;> rfl
@[simp] theorem State.encStep_err (t : Tables) (k : Word) (s : State) : (s.encStep t k).err = s.err := by
  unfold State.encStep; dsimp only; split <;> rfl
@[simp] theorem State.encStep_errcode (t : Tables) (k : Word) (s : State) : (s.encStep t k).errcode = s.errcode := by
  unfold State.encStep; dsimp only; split <;> rfl
@[simp] theorem State.encStep_rksel (t : Tables) (k : Word) (s : State) : (s.encStep t k).rksel = s.rksel := by
  unfold State.encStep; dsimp only; split <;> rfl
@[simp] theorem State.encStep_rdata (t : Tables) (k : Word) (s : State) : (s.encStep t k).rdata = s.rdata := by
  unfold State.encStep; dsimp only; split <;> rfl
@[simp] theorem State.encStep_bus (t : Tables) (k : Word) (s : State) : (s.encStep t k).bus = s.bus := by
  unfold State.encStep; dsimp only; split <;> rfl

/-! ## decStep -/

@[simp] theorem State.decStep_kp (t : Tables) (k : Word) (s : State) : (s.decStep t k).kp = s.kp := by
  unfold State.decStep; dsimp only; split <;> rfl
@[simp] theorem State.decStep_mkey (t : Tables) (k : Word) (s : State) : (s.decStep t k).mkey = s.mkey := by
  unfold State.decStep; dsimp only; split <;> rfl
@[simp] theorem State.decStep_keylen (t : Tables) (k : Word) (s : State) : (s.decStep t k).keylen = s.keylen := by
  unfold State.decStep; dsimp only; split <;> rfl
@[simp] theorem State.decStep_rkey (t : Tables) (k : Word) (s : State) : (s.decStep t k).rkey = s.rkey := by
  unfold State.decStep; dsimp only; split <;> rfl
@[simp] theorem State.decStep_keyvalid (t : Tables) (k : Word) (s : State) : (s.decStep t k).keyvalid = s.keyvalid := by
  unfold State.decStep; dsimp only; split <;> rfl
@[simp] theorem State.decStep_din0 (t : Tables) (k : Word) (s : State) : (s.decStep t k).din0 = s.din0 := by
  unfold State.decStep; dsimp only; split <;> rfl
@[simp] theorem State.decStep_din1 (t : Tables) (k : Word) (s : State) : (s.decStep t k).din1 = s.din1 := by
  unfold State.decStep; dsimp only; split <;> rfl
@[simp] theorem State.decStep_ie (t : Tables) (k : Word) (s : State) : (s.decStep t k).ie = s.ie := by
  unfold State.decStep; dsimp only; split <;> rfl
@[simp] theorem State.decStep_err (t : Tables) (k : Word) (s : State) : (s.decStep t k).err = s.err := by
  unfold State.decStep; dsimp only; split <;> rfl
@[simp] theorem State.decStep_errcode (t : Tables) (k : Word) (s : State) : (s.decStep t k).errcode = s.errcode := by
  unfold State.decStep; dsimp only; split <;> rfl
@[simp] theorem State.decStep_rksel (t : Tables) (k : Word) (s : State) : (s.decStep t k).rksel = s.rksel := by
  unfold State.decStep; dsimp only; split <;> rfl
@[simp] theorem State.decStep_rdata (t : Tables) (k : Word) (s : State) : (s.decStep t k).rdata = s.rdata := by
  unfold State.decStep; dsimp only; split <;> rfl
@[simp] theorem State.decStep_bus (t : Tables) (k : Word) (s : State) : (s.decStep t k).bus = s.bus := by
  unfold State.decStep; dsimp only; split <;> rfl

/-! ## commitStep -/

@[simp] theorem State.commitStep_l (w : Word) (s : State) : (s.commitStep w).l = s.l := by
  unfold State.commitStep; dsimp only; split <;> rfl
@[simp] theorem State.commitStep_r (w : Word) (s : State) : (s.commitStep w).r = s.r := by
  unfold State.commitStep; dsimp only; split <;> rfl
@[simp] theorem State.commitStep_mkey (w : Word) (s : State) : (s.commitStep w).mkey = s.mkey := by
  unfold State.commitStep; dsimp only; split <;> rfl
@[simp] theorem State.commitStep_keylen (w : Word) (s : State) : (s.commitStep w).keylen = s.keylen := by
  unfold State.commitStep; dsimp only; split <;> rfl
@[simp] theorem State.commitStep_din0 (w : Word) (s : State) : (s.commitStep w).din0 = s.din0 := by
  unfold State.commitStep; dsimp only; split <;> rfl
@[simp] theorem State.commitStep_din1 (w : Word) (s : State) : (s.commitStep w).din1 = s.din1 := by
  unfold State.commitStep; dsimp only; split <;> rfl
@[simp] theorem State.commitStep_dout0 (w : Word) (s : State) : (s.commitStep w).dout0 = s.dout0 := by
  unfold State.commitStep; dsimp only; split <;> rfl
@[simp] theorem State.commitStep_dout1 (w : Word) (s : State) : (s.commitStep w).dout1 = s.dout1 := by
  unfold State.commitStep; dsimp only; split <;> rfl
@[simp] theorem State.commitStep_ie (w : Word) (s : State) : (s.commitStep w).ie = s.ie := by
  unfold State.commitStep; dsimp only; split <;> rfl
@[simp] theorem State.commitStep_err (w : Word) (s : State) : (s.commitStep w).err = s.err := by
  unfold State.commitStep; dsimp only; split <;> rfl
@[simp] theorem State.commitStep_errcode (w : Word) (s : State) : (s.commitStep w).errcode = s.errcode := by
  unfold State.commitStep; dsimp only; split <;> rfl
@[simp] theorem State.commitStep_rksel (w : Word) (s : State) : (s.commitStep w).rksel = s.rksel := by
  unfold State.commitStep; dsimp only; split <;> rfl
@[simp] theorem State.commitStep_rdata (w : Word) (s : State) : (s.commitStep w).rdata = s.rdata := by
  unfold State.commitStep; dsimp only; split <;> rfl
@[simp] theorem State.commitStep_bus (w : Word) (s : State) : (s.commitStep w).bus = s.bus := by
  unfold State.commitStep; dsimp only; split <;> rfl

end Sys2Proof.Machine
end

