-- ==== Sys2Proof/Laws/Transform.lean ====
section
/-! SUPPORT. Laws of the round functions, for any tables. -/

namespace Sys2Proof.Machine

@[simp] theorem swapHalves_swapHalves (b : Block) : swapHalves (swapHalves b) = b := rfl

/-- A Dec round undoes the Enc round of the same key. -/
@[simp] theorem decRound_encRound (t : Tables) (k : Word) (b : Block) : decRound t k (encRound t k b) = b := by
  cases b; simp [decRound, encRound]

/-- An Enc round undoes the Dec round of the same key. -/
@[simp] theorem encRound_decRound (t : Tables) (k : Word) (b : Block) : encRound t k (decRound t k b) = b := by
  cases b; simp [decRound, encRound]

/-- A Dec round is an Enc round with the halves renamed (42_feistel.md R152). -/
theorem decRound_swapHalves (t : Tables) (k : Word) (b : Block) :
    decRound t k (swapHalves b) = swapHalves (encRound t k b) := rfl

/-- One S-box lookup as a number. -/
@[simp] theorem sboxLookup_toNat (t : Tables) (n : Nibble) :
    (sboxLookup t n).toNat = (t.sbox n.toFin).val := by
  simp only [sboxLookup, BitVec.toNat_ofNat]
  exact Nat.mod_eq_of_lt (t.sbox n.toFin).isLt

/-- The bits of the OR that Perm is, over any list of source bits. -/
theorem permBits_fold_getLsbD (t : Tables) (x y : Word) (is : List (Fin 16)) (j : Nat) (hj : j < 16) :
    (is.foldl (fun y i => y ||| ((BitVec.ofBool (x.getLsbD i.val)).setWidth 16 <<< (t.perm i).val)) y).getLsbD j
      = (y.getLsbD j || is.any fun i => x.getLsbD i.val && decide ((t.perm i).val = j)) := by
  induction is generalizing y with
  | nil => simp
  | cons i is ih =>
    have hbit : ((BitVec.ofBool (x.getLsbD i.val)).setWidth 16 <<< (t.perm i).val).getLsbD j
        = (x.getLsbD i.val && decide ((t.perm i).val = j)) := by
      have h16 := (t.perm i).isLt
      cases x.getLsbD i.val
      · simp
      · by_cases h : (t.perm i).val = j
        · simp [hj, h]
        · simp [hj, h]; omega
    simp only [List.foldl_cons, ih, List.any_cons, BitVec.getLsbD_or, hbit, Bool.or_assoc]

/-- A round key, by its index (41_key_schedule.md R120). -/
theorem keySchedule_getElem (key : List Word) (h : key ≠ []) (i : Nat) (hi : i < 36) :
    (keySchedule key h)[i] = key[i % key.length]'(Nat.mod_lt _ (List.length_pos_iff.mpr h)) := by
  simp [keySchedule]

end Sys2Proof.Machine
end

