-- ==== Sys2Proof/Machine/Platform.lean ====
section
/-! DEFINITION. The one thing the spec says of a platform's byte-addressed bus (20_memory.md R65): it lays
a 16-bit register into two bytes in an order that is its own. -/

namespace Sys2Proof.Machine

/-- The two bytes of a register, lowest address first, on a bus of the given order (R65, D7). -/
def busBytes (order : ByteOrder) (v : Word) : List Byte :=
  match order with
  | .little => [v.extractLsb' 0 8, v.extractLsb' 8 8]
  | .big => [v.extractLsb' 8 8, v.extractLsb' 0 8]

/-- The register two bytes stand for, lowest address first. -/
def wordOfBusBytes (order : ByteOrder) (b0 b1 : Byte) : Word :=
  match order with
  | .little => b1 ++ b0
  | .big => b0 ++ b1

/-- The two bytes of a register on the platform's own bus (BUS_BYTE_ORDER is OPEN, log 8). -/
def platformBytes (v : Word) : List Byte := busBytes Config.busByteOrder v

end Sys2Proof.Machine
end

