-- ==== Sys2Proof/Tests/Slice0.lean ====
section
/-! SUPPORT. Tests whose expected results come from the spec (95_test_vectors.md and the numbered rules), and
a witness for the hypotheses of every statement that has some. -/

namespace Sys2Proof.Tests

open Sys2Proof.Machine

/-! ## The example tables of 95_test_vectors.md section 2, and small states -/

/-- EX0: identity tables. -/
def ex0 : Tables := { sbox := id, perm := id }

/-- EX1: SBOX x = (7x + 3) mod 16 and PERM i = (5i + 3) mod 16. -/
def ex1 : Tables := { sbox := fun x => 7 * x + 3, perm := fun i => 5 * i + 3 }

/-- The state an outcome goes on in. -/
def goesTo (o : Host.Outcome State Fault Refusal) : Option State :=
  match o with
  | .next s => some s
  | .fault _ => none
  | .refused _ => none

/-- Ready of a master key with reset's values elsewhere (R234). -/
def ready (key : List Word) : State :=
  { State.reset with
    mkey := Vector.ofFn fun i => key[i.val]?.getD 0
    keylen := BitVec.ofNat 6 key.length
    rkey := Vector.ofFn fun i => key[i.val % key.length]?.getD 0
    keyvalid := true }

/-- The reference key of the source, 1 to 16. -/
def key16 : List Word := (List.range 16).map fun n => BitVec.ofNat 16 (n + 1)

/-- A busy state of each operation, in the middle of it, of the instance of key [7]. -/
def encBusy : State := { ready [7] with op := .enc, rc := 5 }
def decBusy : State := { ready [7] with op := .dec, rc := 5 }
def commitBusy : State := { ready [7] with op := .commit, keyvalid := false, rc := 5, kp := 0 }

/-! ## Well-formedness: the one check, and the words it refuses -/

theorem test_wf_refuses_legal_words :
    [Instr.cmdIllegal 0, .cmdIllegal 1, .cmdIllegal 2, .cmdIllegal 3, .cmdIllegal 4].map Instr.wf
      = [false, false, false, false, false] := by decide

theorem test_wf_admits_illegal_words :
    (Instr.cmdIllegal 0x0005).wf = true ∧ (Instr.cmdIllegal 0x0013).wf = true ∧ Instr.encrypt.wf = true := by
  decide

/-! ## Decoding: words written out as W, A, D from R80 to R83 -/

theorem test_decode_commands :
    decodeTx 0b1_0000_0000000000000000 = .nop ∧
    decodeTx 0b1_0000_0000000000000001 = .keyClear ∧
    decodeTx 0b1_0000_0000000000000010 = .keyCommit ∧
    decodeTx 0b1_0000_0000000000000011 = .encrypt ∧
    decodeTx 0b1_0000_0000000000000100 = .decrypt ∧
    decodeTx 0b1_0000_0000000000000101 = .cmdIllegal 0x0005 ∧
    decodeTx 0b1_0000_1000000000000011 = .cmdIllegal 0x8003 := by decide

theorem test_decode_effective_writes :
    decodeTx 0b1_0001_0000000000001010 = .wrStatus 0x000A ∧
    decodeTx 0b1_0010_0000000000000001 = .wrConfig 0x0001 ∧
    decodeTx 0b1_0011_1011111011101111 = .wrKeyin 0xBEEF ∧
    decodeTx 0b1_0101_0000000001000001 = .wrDin0 0x0041 ∧
    decodeTx 0b1_0110_0000000001000010 = .wrDin1 0x0042 ∧
    decodeTx 0b1_1001_0000000000100011 = .wrRksel 0x0023 := by decide

theorem test_decode_ignored_writes :
    decodeTx 0b1_0100_0000000000000001 = .wrKeylen 1 ∧
    decodeTx 0b1_0111_0001001000110100 = .wrDout0 0x1234 ∧
    decodeTx 0b1_1000_0001001000110100 = .wrDout1 0x1234 ∧
    decodeTx 0b1_1010_0000000000000001 = .wrRkdata 1 ∧
    decodeTx 0b1_1011_0000000000000001 = .wrRounds 1 ∧
    decodeTx 0b1_1100_0000000000000001 = .wrRsvdC 1 ∧
    decodeTx 0b1_1101_0000000000000001 = .wrRsvdD 1 ∧
    decodeTx 0b1_1110_0000000000000001 = .wrRsvdE 1 ∧
    decodeTx 0b1_1111_0000000000000001 = .wrRsvdF 1 := by decide

theorem test_decode_reads :
    decodeTx 0b0_0000_0000000000000000 = .rdCmd ∧
    decodeTx 0b0_0001_0000000000000000 = .rdStatus ∧
    decodeTx 0b0_0010_0000000000000000 = .rdConfig ∧
    decodeTx 0b0_0011_0000000000000000 = .rdKeyin ∧
    decodeTx 0b0_0100_0000000000000000 = .rdKeylen ∧
    decodeTx 0b0_0101_0000000000000000 = .rdDin0 ∧
    decodeTx 0b0_0110_0000000000000000 = .rdDin1 ∧
    decodeTx 0b0_0111_0000000000000000 = .rdDout0 ∧
    decodeTx 0b0_1000_0000000000000000 = .rdDout1 ∧
    decodeTx 0b0_1001_0000000000000000 = .rdRksel ∧
    decodeTx 0b0_1010_0000000000000000 = .rdRkdata ∧
    decodeTx 0b0_1011_0000000000000000 = .rdRounds ∧
    decodeTx 0b0_1100_0000000000000000 = .rdRsvdC ∧
    decodeTx 0b0_1101_0000000000000000 = .rdRsvdD ∧
    decodeTx 0b0_1110_0000000000000000 = .rdRsvdE ∧
    decodeTx 0b0_1111_1111111111111111 = .rdRsvdF := by decide

/-- D is no part of a read (R80), and what TX cannot express is refused (I12). -/
theorem test_decode_bytes :
    decode [0x34, 0x12, 0x0A] = .ok .rdRkdata ∧ decode [0x0A, 0x00, 0x11] = .ok (.wrStatus 0x000A) ∧
    decode [0x00, 0x00, 0x20] = .error .tooWide ∧ decode [0x00, 0x00] = .error .wrongLength := by
  refine ⟨rfl, rfl, rfl, rfl⟩

/-- An instruction placed from reset is the first one run. -/
theorem test_placed_instruction_runs :
    step (State.reset.withFetchWord 21 0x150041) = .next { State.reset with din0 := 0x0041 } := rfl

/-! ## The round functions, 95_test_vectors.md 3.1 to 3.3 -/

theorem test_sub :
    [0x0000, 0xFFFF, 0x1234, 0x0001, 0x8000, 0x00F0, 0xABCD, 0x0041].map (subNibbles ex1)
      = [0x3333, 0xCCCC, 0xA18F, 0x333A, 0xB333, 0x33C3, 0x907E, 0x33FA] := by decide

theorem test_perm :
    [0x0000, 0xFFFF, 0x1234, 0x8000, 0x00F0, 0xABCD, 0x0041, 0x0001].map (permBits ex1)
      = [0x0000, 0xFFFF, 0xB081, 0x4000, 0x10C2, 0x6C5F, 0x000A, 0x0008] := by decide

theorem test_round_function :
    roundF ex1 0x0000 0x0000 = 0x9999 ∧ roundF ex1 0x1234 0x0001 = 0x695D ∧
    roundF ex1 0xFFFF 0xFFFF = 0x9999 ∧ roundF ex1 0x0042 0x0001 = 0x98DA ∧
    roundF ex0 0x1234 0x0001 = 0x1235 := by decide

/-! ## The schedule and the transform, 95_test_vectors.md 3.4 to 3.6 -/

theorem test_schedule_wraps :
    (keySchedule [1, 2, 3, 4, 5] (by decide)).toList.drop 30 = [1, 2, 3, 4, 5, 1] := by decide

theorem test_encrypt_reference_key :
    encBlock ex1 (ready key16).rkey { h0 := 0x0041, h1 := 0x0042 } = { h0 := 0xF242, h1 := 0xE166 } := by
  decide

theorem test_decrypt_reference_key :
    decBlock ex1 (ready key16).rkey { h0 := 0x0041, h1 := 0x0042 } = { h0 := 0xDD6A, h1 := 0x3341 } := by
  decide

theorem test_encrypt_final_swap :
    encBlock ex0 (ready [0]).rkey { h0 := 0x1234, h1 := 0x5678 } = { h0 := 0x5678, h1 := 0x1234 } := by
  decide

/-- Row RC = 0 of the trace, and the last one, which writes DOUT with the final swap. -/
theorem test_enc_step_trace :
    (goesTo ({ ready key16 with op := .enc, l := 0x0041, r := 0x0042 }.engineStep ex1)).map
      (fun s => (s.l, s.r, s.rc, s.op)) = some (0x0042, 0x989B, 1, .enc) ∧
    (goesTo ({ ready key16 with op := .enc, l := 0x5489, r := 0xE166, rc := 35 }.engineStep ex1)).map
      (fun s => (s.dout0, s.dout1, s.op, s.done)) = some (0xF242, 0xE166, .idle, true) := by decide

/-- The DECRYPT of the trace's result: its first step and its last. -/
theorem test_dec_step_trace :
    (goesTo ({ ready key16 with op := .dec, l := 0xE166, r := 0xF242, rc := 35 }.engineStep ex1)).map
      (fun s => (s.l, s.r, s.rc, s.op)) = some (0x5489, 0xE166, 34, .dec) ∧
    (goesTo ({ ready key16 with op := .dec, l := 0x0042, r := 0x989B, rc := 0 }.engineStep ex1)).map
      (fun s => (s.dout0, s.dout1, s.op, s.done)) = some (0x0041, 0x0042, .idle, true) := by decide

/-- The COMMIT step writes MK[KP] to RK[RC] and wraps KP at KEYLEN (R125). -/
theorem test_commit_step :
    (goesTo ({ ready [1, 2, 3] with op := .commit, keyvalid := false, rc := 35, kp := 2 }.engineStep ex1)).map
      (fun s => (s.rkey[35], s.kp, s.op, s.keyvalid)) = some (3, 0, .idle, true) := by decide

/-! ## Single transactions, E1 to E16 of 95_test_vectors.md 3.7 -/

/-- STATUS after a transaction. -/
def statusAfter (i : Instr) (s : State) : Option Word := (goesTo (exec i s)).map State.statusWord

/-- What a read returns. -/
def readValue (i : Instr) (s : State) : Option Word := (goesTo (exec i s)).map State.rdata

theorem test_E1_to_E3 :
    statusAfter .keyCommit State.reset = some 0x0018 ∧ statusAfter .encrypt State.reset = some 0x0028 ∧
    statusAfter .decrypt State.reset = some 0x0028 ∧
    statusAfter (.cmdIllegal 0x0007) State.reset = some 0x0038 ∧
    statusAfter (.cmdIllegal 0x0013) State.reset = some 0x0038 := by decide

theorem test_E4_first_error_is_kept :
    statusAfter (.cmdIllegal 0x0007) { State.reset with err := true, errcode := 2 } = some 0x0028 := by decide

theorem test_E5_error_is_cleared :
    statusAfter (.wrStatus 0x0008) { State.reset with err := true, errcode := 2 } = some 0x0000 := by decide

/-- E6 and E7: a command or a key word while busy. -/
theorem test_E6_E7_busy :
    statusAfter .nop encBusy = some 0x004D ∧ statusAfter .keyClear encBusy = some 0x004D ∧
    (goesTo (exec (.wrKeyin 0x0009) commitBusy)).map (fun s => (s.errcode, s.keylen)) = some (4, 1) := by
  decide

/-- E8: the 36th word is stored, the 37th discarded without an error. -/
theorem test_E8_full_buffer :
    (goesTo (exec (.wrKeyin 9) { State.reset with keylen := 35 })).map
      (fun s => (s.mkey[35], s.keylen)) = some (9, 36) ∧
    goesTo (exec (.wrKeyin 9) { State.reset with keylen := 36 }) = some { State.reset with keylen := 36 } := by
  decide

theorem test_E9_E10_rkdata :
    readValue .rdRkdata { ready [1, 2, 3] with rksel := 40 } = some 0x0000 ∧
    readValue .rdRkdata { ready [1, 2, 3] with rksel := 7 } = some 0x0002 ∧
    readValue .rdRksel { ready [1, 2, 3] with rksel := 40 } = some 0x0028 ∧
    (goesTo (exec (.wrRksel 0x0047) State.reset)).map State.rksel = some 7 := by decide

theorem test_E11_to_E13_reads :
    (goesTo (exec (.wrConfig 0xFFFF) State.reset)).map State.configWord = some 0x0001 ∧
    readValue .rdRounds State.reset = some 0x0024 ∧ readValue .rdCmd encBusy = some 0 ∧
    readValue .rdKeyin encBusy = some 0 ∧ readValue .rdRsvdC encBusy = some 0 := by decide

theorem test_E14_result_cannot_be_forged :
    goesTo (exec (.wrDout0 0x1234) State.reset) = some State.reset := by decide

theorem test_E15_key_clear :
    (goesTo (exec .keyClear (ready [1, 2, 3]))).map (fun s => (s.statusWord, s.keylenWord, s.rkdataWord))
      = some (0x0002, 0x0000, 0x0000) := by decide

theorem test_E16_interrupt :
    (goesTo (exec .nop { State.reset with ie := true })).map State.irq = some true ∧
    (goesTo (exec (.wrStatus 0x0002) { State.reset with ie := true, done := true })).map State.irq
      = some false := by decide

/-- A set of DONE by the engine step wins over a clear in the same cycle (R72). -/
theorem test_done_set_wins :
    (goesTo (stepWith ex1 { encBusy with rc := 35, bus := [{ tx := some [0x02, 0x00, 0x11] }] })).map
      (fun s => (s.done, s.op)) = some (true, .idle) := by decide

/-- Step 26 of program P2: `wr DIN0, c0` with c0 read before. -/
theorem test_host_program_writes_a_variable :
    ∃ h, HostRun.step ex1 { HostRun.start [.wr .din0 (.var 3)] [] State.reset with vars := [(3, 0xF242)] } = .next h ∧
      h.machine.din0 = 0xF242 ∧ h.pc = 1 := ⟨_, rfl, rfl, rfl⟩

/-- A cycle passes before `halt`, the engine stepping, when the plan has it so; `halt` itself takes none. -/
theorem test_cycle_passes_before_halt :
    ∃ h g, HostRun.step ex1 (HostRun.start [.halt] [{ issue := false, stall := false }] encBusy) = .next h ∧
      h.machine.rc = 6 ∧ h.halted = false ∧ h.step ex1 = .next g ∧ g.machine = h.machine ∧ g.halted = true ∧
      g.final = false := ⟨_, _, rfl, rfl, rfl, rfl, rfl, rfl, rfl⟩

/-- `cmd ENCRYPT` then `halt`, one cycle before the operation completes: the next step is final. -/
theorem test_ended_run_settles :
    ∃ h, HostRun.step ex1 { HostRun.start [.halt] [] { encBusy with rc := 35 } with halted := true } = .next h ∧
      h.final = true ∧ h.machine.done = true := ⟨_, rfl, rfl, rfl⟩

/-- A `goto` goes to its label, and a label that stands twice is refused. -/
theorem test_goto :
    (∃ h, HostRun.step ex1
      { HostRun.start [.branch 0 1 .ne 0 5, .halt, .label 5] [] State.reset with vars := [(0, 1)] } = .next h ∧
      h.pc = 2) ∧
    HostRun.step ex1
      { HostRun.start [.label 5, .branch 0 1 .ne 0 5, .label 5] [] State.reset with pc := 1, vars := [(0, 1)] }
      = .refused (.ambiguousLabel 5) := ⟨⟨_, rfl, rfl⟩, rfl⟩

/-! ## Witnesses: each shows a state and operands that meet a statement's hypotheses -/

theorem witness_tables : ex1.WellFormed := ⟨by decide, by decide⟩

/-- SubActsOnEachNibbleLane and PermMovesBitToItsDestination: each with the other table no bijection. -/
theorem witness_one_table :
    Function.Injective (Tables.sbox { sbox := ex1.sbox, perm := fun _ => 0 }) ∧
    Function.Injective (Tables.perm { sbox := fun _ => 0, perm := ex1.perm }) := by decide

theorem reset_inv : State.reset.Inv where
  keylen_le := by decide
  no_key_no_instance := fun _ => rfl
  commit_has_key := by decide
  rc_le := by decide
  kp_eq := by decide
  schedule := fun h => absurd h (by decide)
  written := by decide
  no_err_no_code := fun _ => rfl
  err_code := by decide
  cipher_has_key := by decide

theorem ready_inv : (ready [7]).Inv where
  keylen_le := by decide
  no_key_no_instance := by decide
  commit_has_key := by decide
  rc_le := by decide
  kp_eq := by decide
  schedule := fun _ => ⟨1, by decide, by decide, by decide⟩
  written := by decide
  no_err_no_code := fun _ => rfl
  err_code := by decide
  cipher_has_key := by decide

theorem encBusy_inv : encBusy.Inv where
  keylen_le := by decide
  no_key_no_instance := by decide
  commit_has_key := by decide
  rc_le := by decide
  kp_eq := by decide
  schedule := fun _ => ⟨1, by decide, by decide, by decide⟩
  written := by decide
  no_err_no_code := fun _ => rfl
  err_code := by decide
  cipher_has_key := by decide

theorem decBusy_inv : decBusy.Inv where
  keylen_le := by decide
  no_key_no_instance := by decide
  commit_has_key := by decide
  rc_le := by decide
  kp_eq := by decide
  schedule := fun _ => ⟨1, by decide, by decide, by decide⟩
  written := by decide
  no_err_no_code := fun _ => rfl
  err_code := by decide
  cipher_has_key := by decide

theorem commitBusy_inv : commitBusy.Inv where
  keylen_le := by decide
  no_key_no_instance := by decide
  commit_has_key := by decide
  rc_le := by decide
  kp_eq := by decide
  schedule := fun h => absurd h (by decide)
  written := by decide
  no_err_no_code := fun _ => rfl
  err_code := by decide
  cipher_has_key := by decide

/-- DecodeOfEncodeIsTheInstruction: the smallest and the largest illegal word, and a command. -/
theorem witness_decode_of_encode :
    (Instr.cmdIllegal 0x0005).wf = true ∧ (Instr.cmdIllegal 0xFFFF).wf = true ∧ Instr.nop.wf = true := by decide

/-- DecoderFollowsTheOpcodeTable: a command word, also one that no exact row takes. -/
theorem witness_command_words :
    (txWrite 0x100000 = true ∧ txIndex 0x100000 = 0) ∧ (txWrite 0x10FFFF = true ∧ txIndex 0x10FFFF = 0) := by
  decide

/-- InexpressibleTransactionsAreRefused: the two lengths beside 3, the bytes beside the bound, a state. -/
theorem witness_inexpressible :
    ([] : List Byte).length ≠ 3 ∧ ([0, 0] : List Byte).length ≠ 3 ∧ ([0, 0, 0, 0] : List Byte).length ≠ 3 ∧
    32 ≤ (0x20 : Byte).toNat ∧ 32 ≤ (0xFF : Byte).toNat ∧ (0x1F : Byte).toNat < 32 ∧
    decode [0x00, 0x00, 0x20] = .error .tooWide ∧
    ({ State.reset with bus := [{ tx := some [0x00, 0x00, 0x20] }] } : State).bus
      = [{ tx := some [0x00, 0x00, 0x20] }] := by
  refine ⟨by decide, by decide, by decide, by decide, by decide, by decide, rfl, rfl⟩

/-- StepRunsTheDecodedInstruction: from an idle and from a busy state. -/
theorem witness_step_runs :
    (State.reset.withFetchWord 21 0x100000).bus = [{ tx := some [0x00, 0x00, 0x10] }] ∧
    (encBusy.withFetchWord 21 0x100000).bus = [{ tx := some [0x00, 0x00, 0x10] }] ∧
    decode [0x00, 0x00, 0x10] = .ok .nop := ⟨rfl, rfl, rfl⟩

/-- CycleWithoutTransaction: nothing driven, and the engine held back. -/
theorem witness_no_transaction :
    (encBusy.portInput.rst = false ∧ encBusy.portInput.tx = none) ∧
    (encBusy.present { stall := true }).portInput.rst = false ∧
    (encBusy.present { stall := true }).portInput.tx = none := by decide

/-- ResetWinsOverTransactionAndEngineStep: `rst` beside a transaction, while busy. -/
theorem witness_reset_wins :
    (encBusy.present { rst := true, tx := some [0x00, 0x00, 0x10] }).bus
      = { rst := true, tx := some [0x00, 0x00, 0x10] } :: encBusy.bus := rfl

/-- TransactionAndEngineStepCommitTogether: a STATUS clear beside the engine step that completes, and one
beside a step that does not. -/
theorem witness_commit_together :
    (∃ a b, exec (.wrStatus 0x0002) { encBusy with rc := 35, rdata := 0, bus := [] } = .next a ∧
      State.engineStep ex1 { encBusy with rc := 35, rdata := 0, bus := [] } = .next b ∧ b.op = .idle) ∧
    (∃ a b, exec (.wrStatus 0x0002) { encBusy with rdata := 0, bus := [] } = .next a ∧
      State.engineStep ex1 { encBusy with rdata := 0, bus := [] } = .next b ∧ b.op = .enc) ∧
    decode [0x02, 0x00, 0x11] = .ok (.wrStatus 0x0002) ∧ encBusy.op ≠ .idle :=
  ⟨⟨_, _, rfl, rfl, rfl⟩, ⟨_, _, rfl, rfl, rfl⟩, rfl, by decide⟩

/-- NopSetsDone, KeyClearEndsTheInstance, IllegalCommandsAreRecorded: busy and idle. -/
theorem witness_busy_and_idle : encBusy.op ≠ .idle ∧ State.reset.op = .idle := by decide

/-- KeyCommitAccept: busy, idle with no key, idle with one word and with 36. -/
theorem witness_key_commit :
    commitBusy.op ≠ .idle ∧ (State.reset.op = .idle ∧ State.reset.keylen = 0) ∧
    ((ready [7]).op = .idle ∧ (ready [7]).keylen ≠ 0) ∧
    (({ State.reset with keylen := 36 } : State).op = .idle ∧
      ({ State.reset with keylen := 36 } : State).keylen ≠ 0) := by decide

/-- EncryptAccept and DecryptAccept: busy, idle without an instance, idle with one. -/
theorem witness_cipher_commands :
    decBusy.op ≠ .idle ∧ (State.reset.op = .idle ∧ State.reset.keyvalid = false) ∧
    ((ready [7]).op = .idle ∧ (ready [7]).keyvalid = true) := by decide

/-- IllegalCommandsAreRecorded: the first illegal opcode, the last, and one reserved bit at each end. -/
theorem witness_illegal_words :
    4 < ((0x0005 : Word).extractLsb' 0 4).toNat ∧ 4 < ((0x000F : Word).extractLsb' 0 4).toNat ∧
    (0x0013 : Word).extractLsb' 4 12 ≠ 0 ∧ (0x8000 : Word).extractLsb' 4 12 ≠ 0 := by decide

/-- KeyinPushesOneWord: busy, idle at KEYLEN = 0, 35 and 36. -/
theorem witness_keyin :
    encBusy.op ≠ .idle ∧ (State.reset.op = .idle ∧ State.reset.keylen.toNat < 36) ∧
    (({ State.reset with keylen := 35 } : State).op = .idle ∧
      ({ State.reset with keylen := 35 } : State).keylen.toNat < 36) ∧
    (({ State.reset with keylen := 36 } : State).op = .idle ∧
      ({ State.reset with keylen := 36 } : State).keylen = 36) := by decide

/-- StatusWriteOneToClear, its second clause: the clear in the cycle of the last ENC step. -/
theorem witness_clear_at_completion :
    encBusy.op ≠ .idle ∧ ∃ u, stepWith ex1
      { encBusy with rc := 35, bus := [{ tx := some (encodeBytes (.wrStatus 0x0002)) }] } = .next u ∧
      u.op = .idle := ⟨by decide, _, rfl, rfl⟩

/-- RkselWriteStores: the first value of D that selects nothing, and the last that selects a key. -/
theorem witness_rksel :
    35 < ((0x0024 : Word).extractLsb' 0 6).toNat ∧ ¬ 35 < ((0x0063 : Word).extractLsb' 0 6).toNat := by decide

/-- RkdataReadsTheSelectedRoundKey, OperandAndCountReads and CommitEngineStep: a COMMIT in progress, a
transaction and an engine step in it. -/
theorem witness_commit_in_progress :
    commitBusy.Inv ∧ commitBusy.op = .commit ∧ (∃ u, exec (.wrKeyin 9) commitBusy = .next u) ∧
    ∃ u, commitBusy.engineStep ex1 = .next u := ⟨commitBusy_inv, rfl, ⟨_, rfl⟩, _, rfl⟩

/-- RkdataReadsTheSelectedRoundKey: RKSEL = 0, 35 and 36 of an instance, and no instance. -/
theorem witness_rkdata :
    ((ready [7]).keyvalid = true ∧ (ready [7]).rksel.toNat ≤ 35) ∧
    (({ ready [7] with rksel := 35 } : State).keyvalid = true ∧
      ({ ready [7] with rksel := 35 } : State).rksel.toNat ≤ 35) ∧
    35 < ({ ready [7] with rksel := 36 } : State).rksel.toNat ∧ State.reset.keyvalid = false := by decide

/-- OperandAndCountReads: an accept that samples DIN, and a push at KEYLEN = 36. -/
theorem witness_operand_reads :
    (∀ d, Instr.encrypt ≠ .wrDin0 d ∧ Instr.encrypt ≠ .wrDin1 d) ∧
    (∃ u, exec .encrypt (ready [7]) = .next u ∧ u.op = .enc) ∧
    ({ State.reset with keylen := 36 } : State).keylen = 36 ∧
    ∃ u, exec (.wrKeyin 9) { State.reset with keylen := 36 } = .next u :=
  ⟨fun _ => ⟨nofun, nofun⟩, ⟨_, rfl, rfl⟩, rfl, _, rfl⟩

/-- ErrorsArePreciseAndTheFirstIsKept: each code, and none. -/
theorem witness_errors :
    errorOf .keyCommit State.reset = some 1 ∧ errorOf .encrypt State.reset = some 2 ∧
    errorOf (.cmdIllegal 5) State.reset = some 3 ∧ errorOf (.cmdIllegal 5) encBusy = some 4 ∧
    errorOf .nop State.reset = none ∧ errorOf (.wrStatus 8) encBusy = none := by decide

/-- OnlyClearsAndAcceptsLowerIrq: one transaction of each kind lowers irq. -/
theorem witness_irq_lowered :
    ∀ i ∈ [Instr.wrStatus 0x0002, .wrConfig 0x0000, .keyCommit, .encrypt, .decrypt],
      ({ ready [7] with ie := true, done := true } : State).irq = true ∧
      (goesTo (exec i { ready [7] with ie := true, done := true })).map State.irq = some false := by decide

/-- OnlyClearsAndAcceptsLowerIrq, for a cycle: one with `rst`, one with a clear while busy, one with an
accept. -/
theorem witness_irq_lowered_by_cycle :
    ∀ s ∈ [({ ready [7] with ie := true, done := true } : State).present { rst := true },
        { encBusy with ie := true, err := true, errcode := 4 }.withFetchWord 21 0x110008,
        { ready [7] with ie := true, done := true }.withFetchWord 21 0x100003],
      s.irq = true ∧ (goesTo (stepWith ex1 s)).map State.irq = some false := by decide

/-- CommitEngineStep: the last step and the first, KP at both ends. -/
theorem witness_commit_step :
    (({ commitBusy with rc := 35, kp := 35 } : State).op = .commit ∧
      ({ commitBusy with rc := 35, kp := 35 } : State).rc.toNat < 36 ∧
      ({ commitBusy with rc := 35, kp := 35 } : State).kp.toNat < 36) ∧
    (({ commitBusy with rc := 0 } : State).op = .commit ∧ ({ commitBusy with rc := 0 } : State).rc.toNat < 36 ∧
      ({ commitBusy with rc := 0 } : State).kp.toNat < 36 ∧ ({ commitBusy with rc := 0 } : State).rc ≠ 35) := by
  decide

/-- EncAndDecEngineSteps: a first, a middle and a last step of each. -/
theorem witness_cipher_steps :
    (encBusy.op = .enc ∧ encBusy.rc ≠ 35 ∧ encBusy.rc.toNat < 36) ∧
    (({ encBusy with rc := 35 } : State).op = .enc ∧ ({ encBusy with rc := 35 } : State).rc.toNat < 36) ∧
    (decBusy.op = .dec ∧ decBusy.rc ≠ 0 ∧ decBusy.rc.toNat < 36) ∧
    (({ decBusy with rc := 0 } : State).op = .dec ∧ ({ decBusy with rc := 0 } : State).rc = 0) := by decide

/-- EveryOperationEnds: an operation of each kind in progress. -/
theorem witness_operation_in_progress :
    (encBusy.Inv ∧ encBusy.op ≠ .idle) ∧ (decBusy.Inv ∧ decBusy.op = .dec) ∧
    (commitBusy.Inv ∧ commitBusy.op ≠ .idle) :=
  ⟨⟨encBusy_inv, by decide⟩, ⟨decBusy_inv, rfl⟩, ⟨commitBusy_inv, by decide⟩⟩

/-- The coming cycles of a host that writes DIN0 in the second of them, the engine held back in the first. -/
def busyBus : List PortInput := [{ stall := true }, { tx := some (encodeBytes (.wrDin0 0xAAAA)) }]

theorem busyBus_undisturbed (n : Nat) : UndisturbedThrough busyBus n
  | 0, _ => ⟨rfl, rfl⟩
  | 1, _ => ⟨rfl, rfl⟩
  | _ + 2, _ => ⟨rfl, rfl⟩

/-- EncryptCommandComputesEnc and DecryptCommandComputesDec: in the reference timing with nothing driven,
and with a cycle held back and a write meanwhile. -/
theorem witness_cipher_run :
    ((ready [7]).op = .idle ∧ (ready [7]).keyvalid = true ∧ UndisturbedThrough (ready [7]).bus 35 ∧
      engineTurns (ready [7]).bus 35 = 35 ∧ (inputAt (ready [7]).bus 35).stall = false) ∧
    (UndisturbedThrough busyBus 36 ∧ engineTurns busyBus 36 = 35 ∧ (inputAt busyBus 36).stall = false) :=
  ⟨⟨rfl, rfl, fun _ _ => ⟨rfl, rfl⟩, by decide, rfl⟩, busyBus_undisturbed 36, by decide, rfl⟩

/-- CommitFillsTheRoundKeyFile: one word, and 36. -/
theorem witness_commit_run :
    ((ready [7]).keyWords ≠ [] ∧ (ready [7]).op = .idle ∧ (ready [7]).keylen.toNat ≤ 36) ∧
    (({ State.reset with keylen := 36 } : State).keyWords ≠ [] ∧
      ({ State.reset with keylen := 36 } : State).keylen.toNat ≤ 36) ∧
    UndisturbedThrough busyBus 36 ∧ engineTurns busyBus 36 = 35 ∧ (inputAt busyBus 36).stall = false :=
  ⟨by decide, by decide, busyBus_undisturbed 36, by decide, rfl⟩

/-- PushingAndCommittingAKeyReachesReady: reset with a key of one word on the bus, and one of 36. -/
theorem witness_push_and_commit :
    ([7] : List Word) ≠ [] ∧ ([7] : List Word).length ≤ 36 ∧ List.replicate 36 (7 : Word) ≠ [] ∧
    (List.replicate 36 (7 : Word)).length ≤ 36 ∧ State.reset.op = .idle ∧ State.reset.keylen = 0 ∧
    State.reset.err = false ∧ State.reset.errcode = 0 := by decide

/-- PushingAndCommittingAKeyReachesReady: its bus, for a key of two words, and the reset values beside it. -/
theorem witness_push_bus :
    ({ State.reset with bus := [{ tx := some [0x07, 0x00, 0x13] }, { tx := some [0x08, 0x00, 0x13] },
        { tx := some [0x02, 0x00, 0x10] }] } : State).bus
      = (([7, 8] : List Word).map fun k => ({ tx := some (encodeBytes (.wrKeyin k)) } : PortInput))
        ++ [{ tx := some (encodeBytes .keyCommit) }] := by decide

/-- EndedHostRunBecomesFinal: ended in the middle of an operation, with a plan that holds the engine back. -/
theorem witness_ended_run :
    let h : HostRun := { HostRun.start [.halt] [{ issue := true, stall := true }] encBusy with halted := true }
    h.machine.Inv ∧ h.halted = true ∧ h.final = false := ⟨encBusy_inv, rfl, rfl⟩

/-- OperandsAreFrozenWhileBusy: an illegal word and a key word while busy. -/
theorem witness_frozen :
    encBusy.op ≠ .idle ∧ decodeTx (0x10#5 ++ 0x0005#16) = .cmdIllegal 0x0005 ∧
    decodeTx (0x13#5 ++ 0x0009#16) = .wrKeyin 0x0009 := by decide

/-- RoundKeysAreImmutable: a COMMIT step changes RK, and a cycle of an instance goes on. -/
theorem witness_round_keys :
    (∃ u, stepWith ex1 { commitBusy with rkey := Vector.replicate 36 0 } = .next u ∧
      u.rkey ≠ Vector.replicate 36 0) ∧
    (encBusy.Inv ∧ encBusy.keyvalid = true ∧ encBusy.portInput.rst = false ∧
      ∃ u, stepWith ex1 encBusy = .next u) :=
  ⟨⟨_, rfl, by decide⟩, encBusy_inv, rfl, rfl, _, rfl⟩

/-- InstanceBeginsAndEndsOnlyByItsRules: the last COMMIT step begins one; KEY_CLEAR, KEY_COMMIT and reset
each end one. -/
theorem witness_instance :
    (∃ u, stepWith ex1 { commitBusy with rc := 35 } = .next u ∧ u.keyvalid = true) ∧
    (∃ u, stepWith ex1 ((ready [7]).withFetchWord 21 0x100001) = .next u ∧ u.keyvalid = false) ∧
    (∃ u, stepWith ex1 ((ready [7]).withFetchWord 21 0x100002) = .next u ∧ u.keyvalid = false) ∧
    ∃ u, stepWith ex1 ((ready [7]).present { rst := true }) = .next u ∧ u.keyvalid = false :=
  ⟨⟨_, rfl, rfl⟩, ⟨_, rfl, rfl⟩, ⟨_, rfl, rfl⟩, _, rfl, rfl⟩

/-- DoneIsSetAndClearedOnlyByItsRules: set by NOP and by a completion, cleared by a STATUS write and by an
accept. -/
theorem witness_done :
    (∃ u, stepWith ex1 ((ready [7]).withFetchWord 21 0x100000) = .next u ∧ u.done = true) ∧
    (∃ u, stepWith ex1 { encBusy with rc := 35 } = .next u ∧ u.done = true) ∧
    (∃ u, stepWith ex1 ({ ready [7] with done := true }.withFetchWord 21 0x110002) = .next u ∧ u.done = false) ∧
    ∃ u, stepWith ex1 ({ ready [7] with done := true }.withFetchWord 21 0x100003) = .next u ∧ u.done = false :=
  ⟨⟨_, rfl, rfl⟩, ⟨_, rfl, rfl⟩, ⟨_, rfl, rfl⟩, _, rfl, rfl⟩

/-- DoutChangesOnlyAtCompletion: the step that completes changes DOUT. -/
theorem witness_dout :
    ∃ u, stepWith ex0 { encBusy with rc := 35, l := 1, r := 2 } = .next u ∧
      u.dout0 ≠ encBusy.dout0 ∧ u.dout1 ≠ encBusy.dout1 := ⟨_, rfl, by decide, by decide⟩

/-- StepKeepsTheInvariant and EveryExpressibleCycleCompletes: a transaction and an engine step from a state
of the invariant; a cycle with no transaction is expressible too. -/
theorem witness_invariant :
    encBusy.Inv ∧ encBusy.portInput.expressible = true ∧
    (encBusy.withFetchWord 21 0x15AAAA).portInput.expressible = true ∧
    ∃ u, stepWith ex1 (encBusy.withFetchWord 21 0x15AAAA) = .next u :=
  ⟨encBusy_inv, rfl, rfl, _, rfl⟩

/-- UnspecifiedStateIsNeverObserved: reset with other values in what R44 leaves unspecified. -/
theorem witness_same_visible :
    ∃ b : State, b.l = 0xDEAD ∧ b.rkey ≠ State.reset.rkey ∧ b.Inv ∧ SameVisible State.reset b := by
  refine ⟨{ State.reset with
    l := 0xDEAD, rc := 60, mkey := Vector.replicate 36 5, rkey := Vector.replicate 36 9 }, rfl, by decide, ?_, ?_⟩
  · exact ⟨by decide, fun _ => rfl, by decide, by decide, by decide, fun h => absurd h (by decide), by decide, fun _ => rfl,
      by decide, by decide⟩
  · exact ⟨rfl, rfl, by decide, rfl, by decide, rfl, rfl, rfl, rfl, rfl, rfl, rfl, rfl, rfl, rfl, rfl,
      by decide, by decide, by decide, by decide⟩

/-- PalindromicSchedulesMakeEncAnInvolution: the schedule of a one-word key. -/
theorem witness_palindrome : (ready [7]).rkey.reverse = (ready [7]).rkey := by
  ext i hi
  simp [ready, Nat.mod_one]

/-- SubActsOnEachNibbleLane and KeyScheduleRepeatsTheKey: the ends of the ranges, and a key of 37 words. -/
theorem witness_ranges :
    (0 : Nat) < 4 ∧ (3 : Nat) < 4 ∧ (0 : Nat) < 36 ∧ (35 : Nat) < 36 ∧
    List.replicate 37 (7 : Word) ≠ [] ∧ (List.replicate 37 (7 : Word)).take 36 ≠ [] := by decide

end Sys2Proof.Tests
end

section
/-! The parts of a cycle without reset, and a cycle without a transaction (R14, R62, R217). -/

namespace Sys2Proof.Machine

@[simp] theorem hostPart_none (run : Instr → State → Host.Outcome State Fault Refusal) (s : State) :
    hostPart run none s = .next s := rfl

/-- Without reset, a cycle whose host's part answers a next state is the engine's part from there; OP
and the hold are those at the start of the cycle. -/
theorem stepWith_of_hostPart (t : Tables) {s v : State} (hr : s.portInput.rst = false)
    (hv : hostPart exec s.portInput.tx s.beginCycle = .next v) :
    stepWith t s = enginePart t s.op s.portInput.stall v := by
  simp [stepWith, runCycle, hr, hv]

/-- Settles O7: with no transaction the host's part only begins the cycle, and the engine's part from
there is the case split of the statement. -/
theorem cycleWithoutTransaction : Obligations.CycleWithoutTransaction := by
  intro t s hr htx
  have hv : hostPart exec s.portInput.tx s.beginCycle = .next s.beginCycle := by
    rw [htx, hostPart_none]
  calc stepWith t s
      _ = enginePart t s.op s.portInput.stall s.beginCycle := stepWith_of_hostPart t hr hv
      _ = _ := rfl

end Sys2Proof.Machine
end

section
/-! The invariant of R43: what it needs of each transaction and of each engine step, and that every cycle
keeps it. -/

namespace Sys2Proof.Machine

/-! ## Which states meet the invariant -/

/-- ERRCODE is 0 without ERR, and a code of R200 with it: the part of the invariant errors play in. -/
structure ErrCoded (err : Bool) (code : BitVec 4) : Prop where
  no_err_no_code : err = false → code = 0
  err_code : err = true → 1 ≤ code.toNat ∧ code.toNat ≤ 4

theorem State.Inv.errCoded {s : State} (h : s.Inv) : ErrCoded s.err s.errcode :=
  ⟨h.no_err_no_code, h.err_code⟩

theorem errCoded_of_none : ErrCoded false 0 := ⟨fun _ => rfl, fun he => by cases he⟩

/-- In an idle state the invariant speaks of the key, KEYVALID and the error record only. -/
theorem State.inv_of_idle {u : State} (hop : u.op = .idle) (hlen : u.keylen.toNat ≤ 36)
    (hno : u.keylen = 0 → u.keyvalid = false) (hsched : u.keyvalid = true → ∃ len, u.HoldsScheduleOf len)
    (herr : ErrCoded u.err u.errcode) : u.Inv where
  keylen_le := hlen
  no_key_no_instance := hno
  commit_has_key hc := by simp [hop] at hc
  rc_le hb := absurd hop hb
  kp_eq hc := by simp [hop] at hc
  schedule := hsched
  written hc := by simp [hop] at hc
  no_err_no_code := herr.no_err_no_code
  err_code := herr.err_code
  cipher_has_key hc := by simp [hop] at hc

/-- A state with the key state of one that meets the invariant meets it too, if it is idle or its cipher
operation has KEYVALID and an RC in range. -/
theorem State.Inv.of_key_eq {s u : State} (h : s.Inv) (hmk : u.mkey = s.mkey) (hlen : u.keylen = s.keylen)
    (hrk : u.rkey = s.rkey) (hkv : u.keyvalid = s.keyvalid) (herr : ErrCoded u.err u.errcode)
    (hop : u.op = .idle ∨ (u.op = .enc ∨ u.op = .dec) ∧ u.rc.toNat ≤ 35 ∧ u.keyvalid = true) : u.Inv := by
  have hnc : u.op ≠ .commit := by rintro hc; simp [hc] at hop
  exact {
    keylen_le := hlen ▸ h.keylen_le
    no_key_no_instance := by rw [hlen, hkv]; exact h.no_key_no_instance
    commit_has_key := fun hc => absurd hc hnc
    rc_le := fun hb => let ⟨_, hrc, _⟩ := hop.resolve_left hb; hrc
    kp_eq := fun hc => absurd hc hnc
    schedule := fun hv =>
      let ⟨len, hs⟩ := h.schedule (hkv ▸ hv)
      ⟨len, hs.of_eq hrk hmk hlen⟩
    written := fun hc => absurd hc hnc
    no_err_no_code := herr.no_err_no_code
    err_code := herr.err_code
    cipher_has_key := fun hc =>
      let ⟨_, _, hv⟩ := hop.resolve_left (by rcases hc with hc | hc <;> simp [hc])
      hv }

/-- A change of host-side registers, flags and ports alone keeps the invariant. -/
theorem State.Inv.hostSide {s : State} (h : s.Inv) {d0 d1 : Word} {ie done err : Bool} {code : BitVec 4}
    {sel : Count} {v : Word} {bus : List PortInput}
    (herr : ErrCoded err code) :
    State.Inv { s with
      din0 := d0, din1 := d1, ie := ie, done := done, err := err, errcode := code, rksel := sel, rdata := v,
      bus := bus } where
  keylen_le := h.keylen_le
  no_key_no_instance := h.no_key_no_instance
  commit_has_key := h.commit_has_key
  rc_le := h.rc_le
  kp_eq := h.kp_eq
  schedule hv := let ⟨len, hs⟩ := h.schedule hv; ⟨len, hs.of_eq rfl rfl rfl⟩
  written := h.written
  no_err_no_code := herr.no_err_no_code
  err_code := herr.err_code
  cipher_has_key := h.cipher_has_key

/-! ## A transaction keeps the invariant -/

/-- A transaction leaves the error record as it was, records a code of R200, or clears it. -/
theorem TransactionEffect.errCoded {s u : State} (h : ErrCoded s.err s.errcode) (he : TransactionEffect s u) :
    ErrCoded u.err u.errcode := by
  cases he with
  | rejected code hcode =>
    refine ⟨fun hf => (by cases hf), fun _ => ?_⟩
    simp only [State.recorded]
    split
    · exact h.err_code ‹_›
    · exact hcode
  | hostSide d0 d1 ie sel v cd ce =>
    cases ce
    · simpa using h
    · simpa using errCoded_of_none
  | nop | keyClear | keyin | keyCommit | encrypt | decrypt => exact h

theorem TransactionEffect.inv {s u : State} (h : s.Inv) (he : TransactionEffect s u) : u.Inv := by
  have herr := he.errCoded h.errCoded
  cases he with
  | rejected | hostSide | nop =>
    exact h.hostSide herr
  | keyClear hi => exact State.inv_of_idle hi (Nat.zero_le _) (fun _ => rfl) (fun hv => by cases hv) herr
  | keyin hi d hk =>
    have hlen : (s.keylen + 1).toNat = s.keylen.toNat + 1 := by simp; omega
    refine State.inv_of_idle hi (by simp only [hlen]; omega) (fun h0 => ?_) (fun hv => ?_) herr
    · have h0 : (s.keylen + 1).toNat = 0 := congrArg BitVec.toNat h0
      omega
    · obtain ⟨len, hs⟩ := h.schedule hv
      exact ⟨len, State.pushKey_of_lt d hk ▸ hs.pushKey d⟩
  | keyCommit hi hk =>
    have hpos : 1 ≤ s.keylen.toNat := by
      have : s.keylen.toNat ≠ 0 := fun h0 => hk (BitVec.eq_of_toNat_eq h0)
      omega
    exact {
      keylen_le := h.keylen_le
      no_key_no_instance := fun _ => rfl
      commit_has_key := fun _ => ⟨rfl, hpos⟩
      rc_le := fun _ => Nat.zero_le _
      kp_eq := fun _ => (Nat.zero_mod _).symm
      schedule := fun hv => by cases hv
      written := fun _ j hj => absurd hj (Nat.not_lt_zero j)
      no_err_no_code := herr.no_err_no_code
      err_code := herr.err_code
      cipher_has_key := fun hc => by simp at hc }
  | encrypt _ hk => exact h.of_key_eq rfl rfl rfl rfl herr (.inr ⟨.inl rfl, Nat.zero_le 35, hk⟩)
  | decrypt _ hk => exact h.of_key_eq rfl rfl rfl rfl herr (.inr ⟨.inr rfl, Nat.le_refl 35, hk⟩)

/-! ## An engine step keeps the invariant -/

/-- The index of the repeater one step on: it wraps where the next index would be the length (R125). -/
theorem add_one_mod_eq_ite {a n : Nat} (hn : 0 < n) :
    (a + 1) % n = if a % n + 1 = n then 0 else a % n + 1 := by
  have hlt := Nat.mod_lt a hn
  rw [← Nat.mod_add_mod]
  split_ifs with h
  · rw [h, Nat.mod_self]
  · exact Nat.mod_eq_of_lt (by omega)

/-- Before the last step of an operation that counts RC up, RC does not leave the file. -/
theorem rc_succ_toNat {rc : Count} (hle : rc.toNat ≤ 35) (hne : rc ≠ 35) :
    (rc + 1).toNat = rc.toNat + 1 ∧ rc.toNat + 1 ≤ 35 := by
  have : rc.toNat ≠ 35 := fun h => hne (BitVec.eq_of_toNat_eq h)
  constructor
  · simp; omega
  · omega

theorem rc_pred_toNat_le {rc : Count} (hle : rc.toNat ≤ 35) (hne : rc ≠ 0) : (rc - 1).toNat ≤ 35 := by
  bv_omega

theorem State.encStep_of_last (t : Tables) (k : Word) {s : State} (h : s.rc = 35) :
    s.encStep t k = { s with
      l := s.r, r := s.l ^^^ roundF t s.r k, dout0 := s.l ^^^ roundF t s.r k, dout1 := s.r, op := .idle,
      done := true } :=
  if_pos h

theorem State.encStep_of_not_last (t : Tables) (k : Word) {s : State} (h : s.rc ≠ 35) :
    s.encStep t k = { s with l := s.r, r := s.l ^^^ roundF t s.r k, rc := s.rc + 1 } :=
  if_neg h

theorem State.decStep_of_last (t : Tables) (k : Word) {s : State} (h : s.rc = 0) :
    s.decStep t k = { s with
      l := s.r ^^^ roundF t s.l k, r := s.l, dout0 := s.r ^^^ roundF t s.l k, dout1 := s.l, op := .idle,
      done := true } :=
  if_pos h

theorem State.decStep_of_not_last (t : Tables) (k : Word) {s : State} (h : s.rc ≠ 0) :
    s.decStep t k = { s with l := s.r ^^^ roundF t s.l k, r := s.l, rc := s.rc - 1 } :=
  if_neg h

/-- KP after a COMMIT step (R125). -/
def State.nextKp (s : State) : Count := if s.kp + 1 = s.keylen then 0 else s.kp + 1

theorem State.commitStep_of_last (w : Word) {s : State} (h : s.rc = 35) :
    s.commitStep w = { s with
      rkey := s.rkey.setIfInBounds s.rc.toNat w, kp := s.nextKp, op := .idle, keyvalid := true,
      done := true } :=
  if_pos h

theorem State.commitStep_of_not_last (w : Word) {s : State} (h : s.rc ≠ 35) :
    s.commitStep w = { s with
      rkey := s.rkey.setIfInBounds s.rc.toNat w, kp := s.nextKp, rc := s.rc + 1 } :=
  if_neg h

theorem State.Inv.nextKp_toNat {s : State} (h : s.Inv) (hop : s.op = .commit) :
    s.nextKp.toNat = (s.rc.toNat + 1) % s.keylen.toNat := by
  obtain ⟨_, hpos⟩ := h.commit_has_key hop
  have hkp := h.kp_eq hop
  have hle := h.keylen_le
  have hlt : s.rc.toNat % s.keylen.toNat < s.keylen.toNat := Nat.mod_lt _ hpos
  have hsucc : (s.kp + 1).toNat = s.kp.toNat + 1 := by simp; omega
  rw [add_one_mod_eq_ite hpos, ← hkp, State.nextKp, ← hsucc]
  simp only [← BitVec.toNat_inj]
  split <;> rfl

/-- A COMMIT step extends the written part of the schedule by one word (R125, R128). -/
theorem State.Inv.written_succ {s : State} (h : s.Inv) (hop : s.op = .commit) (hk : s.kp.toNat < 36) :
    ∀ j < s.rc.toNat + 1,
      (s.rkey.setIfInBounds s.rc.toNat s.mkey[s.kp.toNat])[j]? = s.mkey[j % s.keylen.toNat]? := by
  intro j hj
  rcases Nat.lt_succ_iff_lt_or_eq.mp hj with hlt | rfl
  · rw [Vector.getElem?_setIfInBounds_ne (by omega), h.written hop j hlt]
  · have hrc := h.rc_le (by simp [hop])
    have hr : s.rc.toNat < 36 := by omega
    simp [hr, ← h.kp_eq hop, hk]

theorem State.Inv.commitStep {s : State} (h : s.Inv) (hop : s.op = .commit) (hk : s.kp.toNat < 36) :
    (s.commitStep s.mkey[s.kp.toNat]).Inv := by
  obtain ⟨hkv, hpos⟩ := h.commit_has_key hop
  have hw := h.written_succ hop hk
  by_cases hlast : s.rc = 35
  · rw [State.commitStep_of_last _ hlast]
    refine State.inv_of_idle rfl h.keylen_le (fun h0 => ?_) (fun _ => ?_) h.errCoded
    · have h0 : s.keylen = 0 := h0
      simp [h0] at hpos
    · exact ⟨s.keylen.toNat, hpos, le_rfl, fun i hi => hw i (by simpa [hlast] using hi)⟩
  · obtain ⟨hsucc, hle⟩ := rc_succ_toNat (h.rc_le (by simp [hop])) hlast
    rw [State.commitStep_of_not_last _ hlast]
    exact {
      keylen_le := h.keylen_le
      no_key_no_instance := h.no_key_no_instance
      commit_has_key := h.commit_has_key
      rc_le := fun _ => hsucc.trans_le hle
      kp_eq := fun _ => (h.nextKp_toNat hop).trans (by rw [hsucc])
      schedule := fun hv => absurd hv (by simp [hkv])
      written := fun _ j hj => hw j (hsucc ▸ hj)
      no_err_no_code := h.no_err_no_code
      err_code := h.err_code
      cipher_has_key := h.cipher_has_key }

theorem State.Inv.encStep {s : State} (h : s.Inv) (hop : s.op = .enc) (t : Tables) (k : Word) :
    (s.encStep t k).Inv := by
  by_cases hlast : s.rc = 35
  · rw [State.encStep_of_last t k hlast]
    exact h.of_key_eq rfl rfl rfl rfl h.errCoded (.inl rfl)
  · obtain ⟨hsucc, hle⟩ := rc_succ_toNat (h.rc_le (by simp [hop])) hlast
    rw [State.encStep_of_not_last t k hlast]
    exact h.of_key_eq rfl rfl rfl rfl h.errCoded
      (.inr ⟨.inl hop, hsucc.trans_le hle, h.cipher_has_key (.inl hop)⟩)

theorem State.Inv.decStep {s : State} (h : s.Inv) (hop : s.op = .dec) (t : Tables) (k : Word) :
    (s.decStep t k).Inv := by
  by_cases hlast : s.rc = 0
  · rw [State.decStep_of_last t k hlast]
    exact h.of_key_eq rfl rfl rfl rfl h.errCoded (.inl rfl)
  · rw [State.decStep_of_not_last t k hlast]
    exact h.of_key_eq rfl rfl rfl rfl h.errCoded
      (.inr ⟨.inr hop, rc_pred_toNat_le (h.rc_le (by simp [hop])) hlast, h.cipher_has_key (.inr hop)⟩)

theorem State.Inv.engineStep {t : Tables} {s u : State} (h : s.Inv) (he : s.engineStep t = .next u) : u.Inv := by
  obtain ⟨-, rfl⟩ | ⟨hop, _, rfl⟩ | ⟨hop, _, rfl⟩ | ⟨hop, _, hk, rfl⟩ := State.engineStep_cases he
  · exact h
  · exact h.encStep hop t _
  · exact h.decStep hop t _
  · exact h.commitStep hop hk

/-! ## A cycle keeps the invariant -/

theorem State.Inv.beginCycle {s : State} (h : s.Inv) : s.beginCycle.Inv :=
  h.hostSide h.errCoded

theorem State.inv_resetEdge (s : State) : s.resetEdge.Inv :=
  State.inv_of_idle rfl (Nat.zero_le _) (fun _ => rfl) (fun hv => by cases hv) errCoded_of_none

/-- Settles O47: the reset state is what a reset edge gives, which is idle with no key. -/
theorem resetMeetsTheInvariant : Obligations.ResetMeetsTheInvariant := State.inv_resetEdge State.reset

/-- Settles O48: reset gives a state of the invariant; otherwise the transaction keeps it, and then the
engine step does. -/
theorem stepKeepsTheInvariant : Obligations.StepKeepsTheInvariant := by
  intro t s u h hstep
  obtain ⟨-, rfl⟩ | ⟨-, v, he, -, ⟨-, rfl⟩ | ⟨-, -, hengine⟩⟩ := stepWith_cases hstep
  · exact s.beginCycle.inv_resetEdge
  · exact he.inv h.beginCycle
  · exact (he.inv h.beginCycle).engineStep hengine

end Sys2Proof.Machine
end

section
/-! State that reset leaves unspecified is never observed (R44): SameVisible is kept by each transaction, by each
engine step, and so by every cycle. -/

namespace Sys2Proof.Machine

/-! ## The host's part of a cycle, and a cycle with reset -/

/-- What the host's part of a cycle that answers a next state was: no transaction, or the one decoded. -/
theorem hostPart_cases {tx : Option (List Byte)} {s u : State} (h : hostPart exec tx s = .next u) :
    (tx = none ∧ u = s) ∨ ∃ bytes i, tx = some bytes ∧ decode bytes = .ok i ∧ exec i s = .next u := by
  cases tx with
  | none => cases h; exact .inl ⟨rfl, rfl⟩
  | some bytes =>
    cases hd : decode bytes with
    | ok i => exact .inr ⟨bytes, i, rfl, hd, by simpa [hostPart, hd] using h⟩
    | error why => simp [hostPart, hd] at h

theorem hostPart_of_decode {bytes : List Byte} {i : Instr} (hd : decode bytes = .ok i) (s : State) :
    hostPart exec (some bytes) s = exec i s := by
  simp only [hostPart, hd]

theorem stepWith_of_rst (t : Tables) {s : State} (hr : s.portInput.rst = true) :
    stepWith t s = .next s.beginCycle.resetEdge :=
  if_pos hr

/-! ## Two states that a host cannot tell apart -/

@[refl] theorem SameVisible.refl (s : State) : SameVisible s s := by
  constructor <;> intros <;> trivial

/-- A check that answers alike in both states. -/
theorem SameVisible.ite {p q : Prop} [Decidable p] [Decidable q] (hpq : p ↔ q) {a b a' b' : State}
    (h : SameVisible a b) (h' : SameVisible a' b') :
    SameVisible (if p then a else a') (if q then b else b') := by
  simp only [hpq]
  split
  · exact h
  · exact h'

/-! ## What a host can read of two such states is equal -/

section
variable {a b : State} (h : SameVisible a b)
include h

theorem SameVisible.busy : a.busy = b.busy := by simp only [State.busy, h.op]

theorem SameVisible.irq : a.irq = b.irq := by simp only [State.irq, h.ie, h.done, h.err]

theorem SameVisible.statusWord : a.statusWord = b.statusWord := by
  simp only [State.statusWord, h.errcode, h.err, h.keyvalid, h.done, h.busy]

theorem SameVisible.portInput : a.portInput = b.portInput := by simp only [State.portInput, h.bus]

/-- RK is read only while KEYVALID is 1, and then the two agree on it. -/
theorem SameVisible.rkdataWord : a.rkdataWord = b.rkdataWord := by
  unfold State.rkdataWord
  rw [← h.keyvalid, ← h.rksel]
  split
  · rw [h.schedule ‹_›]
  · rfl

/-! ## The shared operations -/

theorem SameVisible.beginCycle : SameVisible a.beginCycle b.beginCycle :=
  { h with rdata := rfl, bus := by simp [h.bus] }

theorem SameVisible.resetEdge : SameVisible a.resetEdge b.resetEdge := by
  unfold State.resetEdge
  rw [h.bus]

theorem SameVisible.readOut {v w : Word} (hv : v = w) : SameVisible (a.readOut v) (b.readOut w) :=
  { h with rdata := hv }

theorem SameVisible.raiseError (c : ErrorCode) : SameVisible (a.raiseError c) (b.raiseError c) :=
  { h with err := rfl, errcode := by simp [h.err, h.errcode] }

theorem SameVisible.setDone : SameVisible a.setDone b.setDone := { h with done := rfl }

theorem SameVisible.writeStatus (d : Word) : SameVisible (a.writeStatus d) (b.writeStatus d) :=
  { h with
    done := by simp [h.done]
    err := by simp [h.err]
    errcode := by simp [h.errcode] }

/-- Without a key word in use and without KEYVALID, MK and RK are out of sight. -/
theorem SameVisible.clearKey : SameVisible a.clearKey b.clearKey :=
  { h with
    keylen := rfl
    buffer := fun _ hj => absurd hj (Nat.not_lt_zero _)
    keyvalid := rfl
    schedule := fun hv => by cases hv
    done := rfl }

/-- The word pushed at KEYLEN joins the words in use, and is the same in both. -/
theorem SameVisible.pushKey (d : Word) : SameVisible (a.pushKey d) (b.pushKey d) := by
  rcases Nat.lt_or_ge a.keylen.toNat 36 with hk | hk
  · rw [State.pushKey_of_lt d hk, State.pushKey_of_lt d (h.keylen ▸ hk)]
    refine { h with keylen := congrArg (· + 1) h.keylen, buffer := fun j hj => ?_ }
    have hsucc : (a.keylen + 1).toNat = a.keylen.toNat + 1 := by simp; omega
    simp only [← h.keylen]
    rcases Nat.lt_succ_iff_lt_or_eq.mp (hsucc ▸ hj) with hlt | rfl
    · simpa [Vector.getElem?_set_ne, hlt.ne'] using h.buffer j hlt
    · simp
  · rwa [State.pushKey_of_full d hk, State.pushKey_of_full d (h.keylen ▸ hk)]

/-- The accept of a commit sets what its steps use, and no word of RK is written yet. -/
theorem SameVisible.startCommit : SameVisible a.startCommit b.startCommit :=
  { h with
    op := rfl
    keyvalid := rfl
    schedule := fun hv => by cases hv
    done := rfl
    rc := fun _ => rfl
    kp := fun _ => rfl
    halves := fun hc => by simp at hc
    written := fun _ _ hj => absurd hj (Nat.not_lt_zero _) }

theorem SameVisible.startEncrypt : SameVisible a.startEncrypt b.startEncrypt :=
  { h with
    op := rfl
    done := rfl
    rc := fun _ => rfl
    kp := fun hc => by cases hc
    halves := fun _ => ⟨h.din0, h.din1⟩
    written := fun hc => by cases hc }

theorem SameVisible.startDecrypt : SameVisible a.startDecrypt b.startDecrypt :=
  { h with
    op := rfl
    done := rfl
    rc := fun _ => rfl
    kp := fun hc => by cases hc
    halves := fun _ => ⟨h.din1, h.din0⟩
    written := fun hc => by cases hc }

theorem SameVisible.whenIdle {act : State → State} (hact : SameVisible (act a) (act b)) :
    SameVisible (a.whenIdle act) (b.whenIdle act) := by
  unfold State.whenIdle
  rw [← h.busy]
  split
  · exact h.raiseError .busy
  · exact hact

/-- Two such states stay such states under the same transaction. -/
theorem SameVisible.of_exec (i : Instr) :
    ∃ a' b', exec i a = .next a' ∧ exec i b = .next b' ∧ SameVisible a' b' := by
  cases i <;> refine ⟨_, _, rfl, rfl, ?_⟩
  case nop => exact h.whenIdle h.setDone
  case keyClear => exact h.whenIdle h.clearKey
  case keyCommit =>
    exact h.whenIdle (.ite (by rw [h.keylen]) (h.raiseError .invalidArgument) h.startCommit)
  case encrypt => exact h.whenIdle (.ite (by rw [h.keyvalid]) h.startEncrypt (h.raiseError .noKey))
  case decrypt => exact h.whenIdle (.ite (by rw [h.keyvalid]) h.startDecrypt (h.raiseError .noKey))
  case cmdIllegal => exact h.whenIdle (h.raiseError .illegalCmd)
  case wrStatus d => exact h.writeStatus d
  case wrConfig => exact { h with ie := rfl }
  case wrKeyin d => exact h.whenIdle (h.pushKey d)
  case wrDin0 => exact { h with din0 := rfl }
  case wrDin1 => exact { h with din1 := rfl }
  case wrRksel => exact { h with rksel := rfl }
  case wrKeylen | wrDout0 | wrDout1 | wrRkdata | wrRounds | wrRsvdC | wrRsvdD | wrRsvdE | wrRsvdF => exact h
  case rdStatus => exact h.readOut h.statusWord
  case rdConfig => exact h.readOut (by rw [State.configWord, State.configWord, h.ie])
  case rdKeylen => exact h.readOut (by rw [State.keylenWord, State.keylenWord, h.keylen])
  case rdDin0 => exact h.readOut h.din0
  case rdDin1 => exact h.readOut h.din1
  case rdDout0 => exact h.readOut h.dout0
  case rdDout1 => exact h.readOut h.dout1
  case rdRksel => exact h.readOut (by rw [State.rkselWord, State.rkselWord, h.rksel])
  case rdRkdata => exact h.readOut h.rkdataWord
  case rdCmd | rdKeyin | rdRounds | rdRsvdC | rdRsvdD | rdRsvdE | rdRsvdF => exact h.readOut rfl

/-! ## An engine step -/

/-- A cipher operation that ends with the same result leaves nothing of its own in sight but that. -/
theorem SameVisible.cipherEnds (l r d0 d1 : Word) :
    SameVisible { a with l := l, r := r, dout0 := d0, dout1 := d1, op := .idle, done := true }
      { b with l := l, r := r, dout0 := d0, dout1 := d1, op := .idle, done := true } :=
  { h with
    op := rfl
    dout0 := rfl
    dout1 := rfl
    done := rfl
    rc := fun hb => absurd rfl hb
    kp := fun hc => by cases hc
    halves := fun _ => ⟨rfl, rfl⟩
    written := fun hc => by cases hc }

theorem SameVisible.cipherGoesOn (hop : a.op ≠ .commit) (l r : Word) (rc : Count) :
    SameVisible { a with l := l, r := r, rc := rc } { b with l := l, r := r, rc := rc } :=
  { h with
    rc := fun _ => rfl
    halves := fun _ => ⟨rfl, rfl⟩
    written := fun hc => absurd hc hop }

theorem SameVisible.encStep (hop : a.op = .enc) (t : Tables) (k : Word) :
    SameVisible (a.encStep t k) (b.encStep t k) := by
  have hrc := h.rc (by simp [hop])
  obtain ⟨hl, hr⟩ := h.halves (.inl hop)
  by_cases hlast : a.rc = 35
  · rw [State.encStep_of_last t k hlast, State.encStep_of_last t k (hrc ▸ hlast), hl, hr]
    exact h.cipherEnds _ _ _ _
  · rw [State.encStep_of_not_last t k hlast, State.encStep_of_not_last t k (hrc ▸ hlast), hl, hr, hrc]
    exact h.cipherGoesOn (by simp [hop]) _ _ _

theorem SameVisible.decStep (hop : a.op = .dec) (t : Tables) (k : Word) :
    SameVisible (a.decStep t k) (b.decStep t k) := by
  have hrc := h.rc (by simp [hop])
  obtain ⟨hl, hr⟩ := h.halves (.inr hop)
  by_cases hlast : a.rc = 0
  · rw [State.decStep_of_last t k hlast, State.decStep_of_last t k (hrc ▸ hlast), hl, hr]
    exact h.cipherEnds _ _ _ _
  · rw [State.decStep_of_not_last t k hlast, State.decStep_of_not_last t k (hrc ▸ hlast), hl, hr, hrc]
    exact h.cipherGoesOn (by simp [hop]) _ _ _

/-- A COMMIT step writes the same word of RK in both. -/
theorem SameVisible.written_succ (hop : a.op = .commit) (w : Word) : ∀ j < a.rc.toNat + 1,
    (a.rkey.setIfInBounds a.rc.toNat w)[j]? = (b.rkey.setIfInBounds a.rc.toNat w)[j]? := by
  intro j hj
  rcases Nat.lt_succ_iff_lt_or_eq.mp hj with hlt | rfl
  · rw [Vector.getElem?_setIfInBounds_ne (by omega), Vector.getElem?_setIfInBounds_ne (by omega),
      h.written hop j hlt]
  · simp only [Vector.getElem?_setIfInBounds_self]

theorem SameVisible.commitStep (hi : a.Inv) (hop : a.op = .commit) (w : Word) :
    SameVisible (a.commitStep w) (b.commitStep w) := by
  have hrc := h.rc (by simp [hop])
  have hkp : a.nextKp = b.nextKp := by simp only [State.nextKp, h.kp hop, h.keylen]
  have hw := h.written_succ hop w
  by_cases hlast : a.rc = 35
  · have hfile : a.rkey.setIfInBounds a.rc.toNat w = b.rkey.setIfInBounds a.rc.toNat w := by
      refine Vector.ext fun i hi' => ?_
      have := hw i (by simpa [hlast] using hi')
      simpa [hi'] using this
    rw [State.commitStep_of_last w hlast, State.commitStep_of_last w (hrc ▸ hlast), ← hrc, hfile]
    exact { h with
      op := rfl, keyvalid := rfl, schedule := fun _ => rfl, done := rfl, rc := fun _ => rfl
      kp := fun hc => by cases hc
      halves := fun hc => by simp at hc
      written := fun hc => by cases hc }
  · obtain ⟨hsucc, -⟩ := rc_succ_toNat (hi.rc_le (by simp [hop])) hlast
    obtain ⟨hkv, -⟩ := hi.commit_has_key hop
    rw [State.commitStep_of_not_last w hlast, State.commitStep_of_not_last w (hrc ▸ hlast), ← hrc]
    exact { h with
      schedule := fun hv => absurd hv (by simp [hkv])
      rc := fun _ => rfl
      kp := fun _ => hkp
      written := fun _ j hj => hw j (hsucc ▸ hj) }

/-- In a COMMIT KP is below KEYLEN, so the word it reads is one in use. -/
theorem SameVisible.commitWord (hi : a.Inv) (hop : a.op = .commit) (hka : a.kp.toNat < 36)
    (hkb : b.kp.toNat < 36) : a.mkey[a.kp.toNat] = b.mkey[b.kp.toNat] := by
  obtain ⟨-, hpos⟩ := hi.commit_has_key hop
  have hlt : a.kp.toNat < a.keylen.toNat := hi.kp_eq hop ▸ Nat.mod_lt _ hpos
  have := h.buffer _ hlt
  simp only [← h.kp hop]
  simpa [hka] using this

/-- Where one of two such states takes an engine step, so does the other, and they stay such states. -/
theorem SameVisible.of_engineStep (hi : a.Inv) {t : Tables} {a' : State} (he : a.engineStep t = .next a') :
    ∃ b', b.engineStep t = .next b' ∧ SameVisible a' b' := by
  obtain ⟨hop, rfl⟩ | ⟨hop, hra, rfl⟩ | ⟨hop, hra, rfl⟩ | ⟨hop, hra, hka, rfl⟩ := State.engineStep_cases he
  · exact ⟨b, State.engineStep_idle t (h.op ▸ hop), h⟩
  all_goals
    have hrc := h.rc (by simp [hop])
    have hrb : b.rc.toNat < 36 := hrc ▸ hra
    have hopb := h.op ▸ hop
  · refine ⟨_, State.engineStep_enc t hopb hrb, ?_⟩
    simp only [h.schedule (hi.cipher_has_key (.inl hop)), hrc]
    exact h.encStep hop t _
  · refine ⟨_, State.engineStep_dec t hopb hrb, ?_⟩
    simp only [h.schedule (hi.cipher_has_key (.inr hop)), hrc]
    exact h.decStep hop t _
  · have hkb : b.kp.toNat < 36 := h.kp hop ▸ hka
    refine ⟨_, State.engineStep_commit t hopb hrb hkb, ?_⟩
    rw [← h.commitWord hi hop hka hkb]
    exact h.commitStep hi hop _

/-! ## A cycle -/

theorem SameVisible.of_hostPart {tx : Option (List Byte)} {a' : State} (he : hostPart exec tx a = .next a') :
    ∃ b', hostPart exec tx b = .next b' ∧ SameVisible a' b' := by
  obtain ⟨rfl, rfl⟩ | ⟨bytes, i, rfl, hd, hexec⟩ := hostPart_cases he
  · exact ⟨b, rfl, h⟩
  · obtain ⟨u, b', hu, hb, hsame⟩ := h.of_exec i
    obtain rfl : u = a' := by simpa [hu] using hexec
    exact ⟨b', (hostPart_of_decode hd b).trans hb, hsame⟩

theorem SameVisible.of_stepWith (hi : a.Inv) {t : Tables} {a' : State} (hstep : stepWith t a = .next a') :
    ∃ b', stepWith t b = .next b' ∧ SameVisible a' b' := by
  have hport := h.portInput
  obtain ⟨hr, rfl⟩ | ⟨hr, v, he, hv, hcase⟩ := stepWith_cases hstep
  · exact ⟨_, stepWith_of_rst t (hport ▸ hr), h.beginCycle.resetEdge⟩
  · obtain ⟨w, hw, hsame⟩ := h.beginCycle.of_hostPart hv
    have hb := stepWith_of_hostPart t (hport ▸ hr) (hport ▸ hw)
    rw [hb, ← h.op, ← hport]
    unfold enginePart
    obtain ⟨hpause, rfl⟩ | ⟨hop, hstall, hengine⟩ := hcase
    · exact ⟨w, if_pos hpause, hsame⟩
    · rw [if_neg (by simp [hop, hstall])]
      exact hsame.of_engineStep (he.inv hi.beginCycle) hengine

end

/-- Settles O50: the two stay alike through the cycle, and irq and STATUS are computed from what they share. -/
theorem unspecifiedStateIsNeverObserved : Obligations.UnspecifiedStateIsNeverObserved := by
  intro t a b a' hi _ h hstep
  obtain ⟨b', hb, hsame⟩ := h.of_stepWith hi hstep
  exact ⟨b', hb, hsame, hsame.irq, hsame.statusWord⟩

end Sys2Proof.Machine
end

section
/-! When KEYVALID, DONE and DOUT change: what a transaction and an engine step do to them (R32, R34, R37). -/

namespace Sys2Proof.Machine

/-! ## A transaction -/

/-- What an instruction does to KEYVALID and DONE: the six that change one of them, and the rest. -/
inductive FlagEffect (s : State) : Instr → State → Prop where
  | keeps (i : Instr) (u : State) (hkv : u.keyvalid = s.keyvalid) (hdone : u.done = s.done) : FlagEffect s i u
  | status (d : Word) : FlagEffect s (.wrStatus d) (s.writeStatus d)
  | nop (h : s.op = .idle) : FlagEffect s .nop s.setDone
  | keyClear (h : s.op = .idle) : FlagEffect s .keyClear s.clearKey
  | keyCommit (h : s.op = .idle) : FlagEffect s .keyCommit s.startCommit
  | encrypt (h : s.op = .idle) : FlagEffect s .encrypt s.startEncrypt
  | decrypt (h : s.op = .idle) : FlagEffect s .decrypt s.startDecrypt

/-- While busy a checked write only records an error, so it is enough to look at the idle engine. -/
theorem FlagEffect.whenIdle {s : State} {i : Instr} {act : State → State}
    (h : s.op = .idle → FlagEffect s i (act s)) : FlagEffect s i (s.whenIdle act) := by
  by_cases hop : s.op = .idle
  · rw [State.whenIdle_of_idle hop]; exact h hop
  · rw [State.whenIdle_of_busy hop]; exact .keeps i _ rfl rfl

theorem exec_flagEffect {i : Instr} {s u : State} (h : exec i s = .next u) : FlagEffect s i u := by
  cases i <;> cases h
  case nop => exact .whenIdle .nop
  case keyClear => exact .whenIdle .keyClear
  case keyCommit =>
    refine .whenIdle fun hop => ?_
    split
    · exact .keeps _ _ rfl rfl
    · exact .keyCommit hop
  case encrypt =>
    refine .whenIdle fun hop => ?_
    split
    · exact .encrypt hop
    · exact .keeps _ _ rfl rfl
  case decrypt =>
    refine .whenIdle fun hop => ?_
    split
    · exact .decrypt hop
    · exact .keeps _ _ rfl rfl
  case cmdIllegal => exact .whenIdle fun _ => .keeps _ _ rfl rfl
  case wrStatus d => exact .status d
  case wrKeyin d => exact .whenIdle fun _ => .keeps _ _ (s.pushKey_keyvalid d) (s.pushKey_done d)
  all_goals exact .keeps _ _ rfl rfl

/-- The host's part of a cycle leaves both flags alone, or is a transaction with one of those effects. -/
theorem hostPart_flagEffect {tx : Option (List Byte)} {s u : State} (h : hostPart exec tx s = .next u) :
    (u.keyvalid = s.keyvalid ∧ u.done = s.done) ∨
      ∃ bytes i, tx = some bytes ∧ decode bytes = .ok i ∧ FlagEffect s i u := by
  obtain ⟨-, rfl⟩ | ⟨bytes, i, htx, hd, hexec⟩ := hostPart_cases h
  · exact .inl ⟨rfl, rfl⟩
  · exact .inr ⟨bytes, i, htx, hd, exec_flagEffect hexec⟩

theorem TransactionEffect.keyvalid_of {s u : State} (h : TransactionEffect s u) (hu : u.keyvalid = true) :
    s.keyvalid = true := by
  cases h with
  | keyClear | keyCommit => cases hu
  | _ => exact hu

theorem FlagEffect.lowers_keyvalid {s u : State} {i : Instr} (h : FlagEffect s i u) (hs : s.keyvalid = true)
    (hu : u.keyvalid = false) : s.op = .idle ∧ (i = .keyClear ∨ i = .keyCommit) := by
  cases h with
  | keyClear hop => exact ⟨hop, .inl rfl⟩
  | keyCommit hop => exact ⟨hop, .inr rfl⟩
  | _ => simp_all

theorem FlagEffect.raises_done {s u : State} {i : Instr} (h : FlagEffect s i u) (hs : s.done = false)
    (hu : u.done = true) : s.op = .idle ∧ (i = .nop ∨ i = .keyClear) := by
  cases h with
  | nop hop => exact ⟨hop, .inl rfl⟩
  | keyClear hop => exact ⟨hop, .inr rfl⟩
  | _ => simp_all

theorem FlagEffect.lowers_done {s u : State} {i : Instr} (h : FlagEffect s i u) (hs : s.done = true)
    (hu : u.done = false) : (∃ d, i = .wrStatus d ∧ d.getLsbD 1 = true) ∨
      s.op = .idle ∧ u.op ≠ .idle ∧ (i = .keyCommit ∨ i = .encrypt ∨ i = .decrypt) := by
  cases h with
  | status d => exact .inl ⟨d, rfl, by simpa [hs, statusClearsDone] using hu⟩
  | keyCommit hop | encrypt hop | decrypt hop => exact .inr ⟨hop, by simp, by simp⟩
  | _ => simp_all

/-! ## An engine step -/

/-- An engine step of an operation goes on with the operation, or ends it. -/
inductive EngineProgress (s u : State) : Prop where
  | goesOn (hop : u.op = s.op) (hkv : u.keyvalid = s.keyvalid) (hdone : u.done = s.done)
      (hd0 : u.dout0 = s.dout0) (hd1 : u.dout1 = s.dout1) : EngineProgress s u
  | cipherEnds (hs : s.op = .enc ∨ s.op = .dec) (hop : u.op = .idle) (hkv : u.keyvalid = s.keyvalid)
      (hdone : u.done = true) : EngineProgress s u
  | commitEnds (hs : s.op = .commit) (hrc : s.rc = 35) (hop : u.op = .idle) (hkv : u.keyvalid = true)
      (hdone : u.done = true) (hd0 : u.dout0 = s.dout0) (hd1 : u.dout1 = s.dout1) : EngineProgress s u

theorem State.engineStep_progress {t : Tables} {s u : State} (hb : s.op ≠ .idle)
    (h : s.engineStep t = .next u) : EngineProgress s u := by
  obtain ⟨hop, -⟩ | ⟨hop, _, rfl⟩ | ⟨hop, _, rfl⟩ | ⟨hop, _, _, rfl⟩ := State.engineStep_cases h
  · exact absurd hop hb
  · by_cases hlast : s.rc = 35
    · rw [State.encStep_of_last _ _ hlast]; exact .cipherEnds (.inl hop) rfl rfl rfl
    · rw [State.encStep_of_not_last _ _ hlast]; exact .goesOn rfl rfl rfl rfl rfl
  · by_cases hlast : s.rc = 0
    · rw [State.decStep_of_last _ _ hlast]; exact .cipherEnds (.inr hop) rfl rfl rfl
    · rw [State.decStep_of_not_last _ _ hlast]; exact .goesOn rfl rfl rfl rfl rfl
  · by_cases hlast : s.rc = 35
    · rw [State.commitStep_of_last _ hlast]; exact .commitEnds hop hlast rfl rfl rfl rfl rfl
    · rw [State.commitStep_of_not_last _ hlast]; exact .goesOn rfl rfl rfl rfl rfl

/-! ## A cycle without reset -/

/-- A cycle without reset is the host's part, to `v`, and then no engine step, or one of the operation that
was in progress at the start; while one is, the host's part leaves OP and RC alone. -/
theorem stepWith_progress {t : Tables} {s u : State} (h : stepWith t s = .next u)
    (hr : s.portInput.rst = false) :
    ∃ v, TransactionEffect s.beginCycle v ∧ hostPart exec s.portInput.tx s.beginCycle = .next v ∧
      (u = v ∨ s.op ≠ .idle ∧ v.op = s.op ∧ v.rc = s.rc ∧ EngineProgress v u) := by
  obtain ⟨hrst, -⟩ | ⟨-, v, he, hv, ⟨-, rfl⟩ | ⟨hop, -, hengine⟩⟩ := stepWith_cases h
  · simp [hr] at hrst
  · exact ⟨u, he, hv, .inl rfl⟩
  · obtain ⟨hvop, -, -, hvrc, -⟩ := he.keeps_of_busy (s := s.beginCycle) hop
    exact ⟨v, he, hv, .inr ⟨hop, hvop, hvrc, State.engineStep_progress (hvop ▸ hop) hengine⟩⟩

/-- KEYVALID rises in no transaction, so in the engine step, and there only in the last of a COMMIT. -/
theorem stepWith_raises_keyvalid {t : Tables} {s u : State} (h : stepWith t s = .next u)
    (hs : s.keyvalid = false) (hu : u.keyvalid = true) :
    s.portInput.rst = false ∧ s.op = .commit ∧ s.rc = 35 ∧ u.op = .idle := by
  cases hr : s.portInput.rst with
  | true =>
    rw [stepWith_of_rst t hr] at h
    cases h; cases hu
  | false =>
    obtain ⟨v, he, -, hcase⟩ := stepWith_progress h hr
    have hv : v.keyvalid ≠ true := fun hv => Bool.false_ne_true (hs.symm.trans (he.keyvalid_of hv))
    obtain rfl | ⟨-, hvop, hvrc, hp⟩ := hcase
    · exact absurd hu hv
    · cases hp with
      | goesOn _ hkv => exact absurd (hkv ▸ hu) hv
      | cipherEnds _ _ hkv => exact absurd (hkv ▸ hu) hv
      | commitEnds hc hrc hop => exact ⟨rfl, hvop ▸ hc, hvrc ▸ hrc, hop⟩

/-- KEYVALID falls in no engine step, so by reset or in the transaction. -/
theorem stepWith_lowers_keyvalid {t : Tables} {s u : State} (h : stepWith t s = .next u)
    (hs : s.keyvalid = true) (hu : u.keyvalid = false) :
    s.portInput.rst = true ∨ (s.op = .idle ∧ ∃ bytes, s.portInput.tx = some bytes ∧
      (decode bytes = .ok .keyClear ∨ decode bytes = .ok .keyCommit)) := by
  cases hr : s.portInput.rst with
  | true => exact .inl rfl
  | false =>
    obtain ⟨v, -, hhost, hcase⟩ := stepWith_progress h hr
    have hv : v.keyvalid = false := by
      obtain rfl | ⟨-, -, -, hp⟩ := hcase
      · exact hu
      · cases hp with
        | goesOn _ hkv => exact hkv ▸ hu
        | cipherEnds _ _ hkv => exact hkv ▸ hu
        | commitEnds _ _ _ hkv => simp [hkv] at hu
    obtain ⟨hkv, -⟩ | ⟨bytes, i, htx, hd, hf⟩ := hostPart_flagEffect hhost
    · simp [hkv, hs] at hv
    · obtain ⟨hop, rfl | rfl⟩ := hf.lowers_keyvalid hs hv
      · exact .inr ⟨hop, bytes, htx, .inl hd⟩
      · exact .inr ⟨hop, bytes, htx, .inr hd⟩

/-- Settles O44: the rise is in the engine step, the fall in the transaction or by reset. -/
theorem instanceBeginsAndEndsOnlyByItsRules : Obligations.InstanceBeginsAndEndsOnlyByItsRules :=
  fun _ _ _ h => ⟨stepWith_raises_keyvalid h, stepWith_lowers_keyvalid h⟩

/-- DONE rises in the engine step that ends an operation, or in the transaction of an idle engine. -/
theorem stepWith_raises_done {t : Tables} {s u : State} (h : stepWith t s = .next u)
    (hr : s.portInput.rst = false) (hs : s.done = false) (hu : u.done = true) :
    (s.op ≠ .idle ∧ u.op = .idle) ∨ (s.op = .idle ∧ ∃ bytes, s.portInput.tx = some bytes ∧
      (decode bytes = .ok .nop ∨ decode bytes = .ok .keyClear)) := by
  obtain ⟨v, -, hhost, hcase⟩ := stepWith_progress h hr
  have hv : v.done = true ∨ s.op ≠ .idle ∧ u.op = .idle := by
    obtain rfl | ⟨hb, -, -, hp⟩ := hcase
    · exact .inl hu
    · cases hp with
      | goesOn _ _ hdone => exact .inl (hdone ▸ hu)
      | cipherEnds _ hop => exact .inr ⟨hb, hop⟩
      | commitEnds _ _ hop => exact .inr ⟨hb, hop⟩
  refine hv.symm.imp_right fun hv => ?_
  obtain ⟨-, hdone⟩ | ⟨bytes, i, htx, hd, hf⟩ := hostPart_flagEffect hhost
  · simp [hdone, hs] at hv
  · obtain ⟨hop, rfl | rfl⟩ := hf.raises_done hs hv
    · exact ⟨hop, bytes, htx, .inl hd⟩
    · exact ⟨hop, bytes, htx, .inr hd⟩

/-- DONE falls in no engine step, so in the transaction; an accept finds the engine idle, and its first
engine step comes in a later cycle. -/
theorem stepWith_lowers_done {t : Tables} {s u : State} (h : stepWith t s = .next u)
    (hr : s.portInput.rst = false) (hs : s.done = true) (hu : u.done = false) :
    ∃ bytes, s.portInput.tx = some bytes ∧
      ((∃ d, decode bytes = .ok (.wrStatus d) ∧ d.getLsbD 1 = true) ∨
        (s.op = .idle ∧ u.op ≠ .idle ∧
          (decode bytes = .ok .keyCommit ∨ decode bytes = .ok .encrypt ∨ decode bytes = .ok .decrypt))) := by
  obtain ⟨v, -, hhost, hcase⟩ := stepWith_progress h hr
  have hv : v.done = false ∧ (s.op = .idle → u.op = v.op) := by
    obtain rfl | ⟨hb, -, -, hp⟩ := hcase
    · exact ⟨hu, fun _ => rfl⟩
    · cases hp with
      | goesOn hop _ hdone => exact ⟨hdone ▸ hu, fun _ => hop⟩
      | cipherEnds _ _ _ hdone => simp [hdone] at hu
      | commitEnds _ _ _ _ hdone => simp [hdone] at hu
  obtain ⟨hv, hop⟩ := hv
  obtain ⟨-, hdone⟩ | ⟨bytes, i, htx, hd, hf⟩ := hostPart_flagEffect hhost
  · simp [hdone, hs] at hv
  · refine ⟨bytes, htx, ?_⟩
    obtain ⟨d, rfl, hbit⟩ | ⟨hidle, hbusy, hi⟩ := hf.lowers_done hs hv
    · exact .inl ⟨d, hd, hbit⟩
    · exact .inr ⟨hidle, hop hidle ▸ hbusy, by rwa [hd, Except.ok.injEq, Except.ok.injEq, Except.ok.injEq]⟩

/-- Settles O45: the rise is in the engine step or the transaction, the fall in the transaction. -/
theorem doneIsSetAndClearedOnlyByItsRules : Obligations.DoneIsSetAndClearedOnlyByItsRules :=
  fun _ _ _ h hr => ⟨stepWith_raises_done h hr, stepWith_lowers_done h hr⟩

/-- Settles O46: no transaction changes DOUT, and of the engine steps only the last of a cipher operation. -/
theorem doutChangesOnlyAtCompletion : Obligations.DoutChangesOnlyAtCompletion := by
  intro t s u h hr hne
  obtain ⟨v, he, -, hcase⟩ := stepWith_progress h hr
  obtain ⟨-, hv0, hv1, -⟩ := he.keeps
  have hsame : ¬ (u.dout0 = v.dout0 ∧ u.dout1 = v.dout1) := by
    rw [hv0, hv1, not_and_or]; exact hne
  obtain rfl | ⟨-, hvop, -, hp⟩ := hcase
  · exact absurd ⟨rfl, rfl⟩ hsame
  · cases hp with
    | goesOn _ _ _ hd0 hd1 => exact absurd ⟨hd0, hd1⟩ hsame
    | commitEnds _ _ _ _ _ hd0 hd1 => exact absurd ⟨hd0, hd1⟩ hsame
    | cipherEnds hs hop _ hdone => exact ⟨hvop ▸ hs, hop, hdone⟩

end Sys2Proof.Machine
end

section
/-! The reset state's values (R44), the layout of STATUS (R36, R181), and the result registers (R34, R184). -/

namespace Sys2Proof.Machine

/-- Settles O8: each value is the reset state's own, and irq is computed from them. -/
theorem resetValues : Obligations.ResetValues :=
  ⟨rfl, rfl, rfl, rfl, rfl, rfl, rfl, rfl, rfl, rfl, rfl, rfl, rfl⟩

/-! ## STATUS -/

theorem State.busy_eq_decide (s : State) : s.busy = decide (s.op ≠ .idle) := by
  cases h : s.op <;> simp [State.busy, h]

/-- The bits of STATUS from the lowest up: the four flags, then ERRCODE (R36). -/
theorem State.statusWord_getLsbD (s : State) (i : Nat) : s.statusWord.getLsbD i =
    match i with
    | 0 => s.busy
    | 1 => s.done
    | 2 => s.keyvalid
    | 3 => s.err
    | i + 4 => s.errcode.getLsbD i := by
  simp only [State.statusWord, BitVec.getLsbD_setWidth, BitVec.getLsbD_append]
  rcases i with _ | _ | _ | _ | i
  case succ.succ.succ.succ =>
    have hlt : s.errcode.getLsbD i = true → i + 4 < 16 := fun h => by
      have := BitVec.lt_of_getLsbD h
      omega
    simpa using hlt
  all_goals simp

theorem State.statusWord_errcode (s : State) : s.statusWord.extractLsb' 4 4 = s.errcode := by
  apply BitVec.eq_of_getLsbD_eq
  intro i hi
  rw [BitVec.getLsbD_extractLsb', Nat.add_comm, State.statusWord_getLsbD]
  simp [hi]

theorem State.statusWord_high (s : State) : s.statusWord.extractLsb' 8 8 = 0 := by
  apply BitVec.eq_of_getLsbD_eq
  intro i hi
  rw [BitVec.getLsbD_extractLsb', show 8 + i = i + 4 + 4 by omega, State.statusWord_getLsbD]
  simp

/-- Settles O24: the read's value is STATUS, and nothing but the read port changes. -/
theorem statusReadLayout : Obligations.StatusReadLayout :=
  ⟨fun d => decodeTx_append 0x01#5 d, fun s => ⟨s.statusWord, rfl,
    (s.statusWord_getLsbD 0).trans s.busy_eq_decide, s.statusWord_getLsbD 1, s.statusWord_getLsbD 2,
    s.statusWord_getLsbD 3, s.statusWord_errcode, s.statusWord_high⟩⟩

/-! ## DOUT -/

/-- Settles O27: a read puts the register on the read port, and no transaction's effect reaches DOUT. -/
theorem doutReadsTheLastResult : Obligations.DoutReadsTheLastResult := by
  refine ⟨fun d => ⟨decodeTx_append 0x07#5 d, decodeTx_append 0x08#5 d⟩, fun s => ⟨rfl, rfl, fun i u h => ?_⟩⟩
  obtain ⟨v, hv, he⟩ := exec_effect i s
  obtain rfl : v = u := by simpa [hv] using h
  obtain ⟨-, hd0, hd1, -⟩ := he.keeps
  exact ⟨hd0, hd1⟩

end Sys2Proof.Machine
end

section
/-! A cycle that carries a transaction (R62, R72): it runs the decoded instruction, the transaction and the
engine step commit together, and from a state of the invariant it completes (R61, R210). -/

namespace Sys2Proof.Machine

/-! ## The start of a cycle with a listed input -/

theorem State.portInput_of_bus {s : State} {p : PortInput} {rest : List PortInput} (h : s.bus = p :: rest) :
    s.portInput = p := by
  rw [State.portInput, h, List.headD_cons]

theorem State.beginCycle_of_bus {s : State} {p : PortInput} {rest : List PortInput} (h : s.bus = p :: rest) :
    s.beginCycle = { s with rdata := 0, bus := rest } := by
  rw [State.beginCycle, h, List.tail_cons]

/-- A cycle without reset whose bytes decode is the engine's part from where the instruction ends. -/
theorem stepWith_of_decode (t : Tables) {s v : State} {p : PortInput} {rest : List PortInput}
    {bytes : List Byte} {i : Instr} (hbus : s.bus = p :: rest) (hr : p.rst = false) (htx : p.tx = some bytes)
    (hd : decode bytes = .ok i) (hv : exec i { s with rdata := 0, bus := rest } = .next v) :
    stepWith t s = enginePart t s.op p.stall v := by
  have hp := State.portInput_of_bus hbus
  have hhost : hostPart exec s.portInput.tx s.beginCycle = .next v := by
    rw [hp, htx, hostPart_of_decode hd, State.beginCycle_of_bus hbus, hv]
  rw [stepWith_of_hostPart t (hp ▸ hr) hhost, hp]

/-- Settles O6: every instruction answers a next state, and the engine's part from there is the case split
of the statement. -/
theorem stepRunsTheDecodedInstruction : Obligations.StepRunsTheDecodedInstruction := by
  refine ⟨fun _ => rfl, fun t s p rest bytes i hbus hr htx hd => ?_⟩
  obtain ⟨v, hv, -⟩ := exec_effect i { s with rdata := 0, bus := rest }
  rw [stepWith_of_decode t hbus hr htx hd hv, hv]
  rfl

/-! ## The simultaneous commit of R72 -/

/-- The state a cycle leaves when a transaction's result `a` and an engine step's result `b` commit together:
the host-side fields of `a`, the rest of `b`, and a completion sets DONE over what `a` has in it. -/
def State.commitTogether (a b : State) : State :=
  { b with
    din0 := a.din0, din1 := a.din1, ie := a.ie, rksel := a.rksel, err := a.err, errcode := a.errcode,
    rdata := a.rdata, done := if b.op = .idle then true else a.done }

theorem TransactionEffect.of_exec {i : Instr} {s u : State} (h : exec i s = .next u) : TransactionEffect s u := by
  obtain ⟨v, hv, he⟩ := exec_effect i s
  rw [hv] at h
  cases h
  exact he

/-- A transaction while busy changes only what `commitTogether` takes from the transaction. -/
theorem TransactionEffect.commitTogether_eq {s a : State} (h : TransactionEffect s a) (hb : s.op ≠ .idle) :
    a.commitTogether s = a := by
  rw [State.commitTogether, if_neg hb]
  cases h with
  | rejected | hostSide => rfl
  | _ => contradiction

/-! An engine step reads nothing that `commitTogether` takes from the transaction, and of it sets only DONE,
when it completes. -/

theorem State.encStep_commitTogether (t : Tables) (k : Word) (a s : State) :
    (a.commitTogether s).encStep t k = a.commitTogether (s.encStep t k) := by
  by_cases hlast : s.rc = 35
  · rw [State.encStep_of_last t k hlast]
    exact State.encStep_of_last (s := a.commitTogether s) t k hlast
  · rw [State.encStep_of_not_last t k hlast]
    exact State.encStep_of_not_last (s := a.commitTogether s) t k hlast

theorem State.decStep_commitTogether (t : Tables) (k : Word) (a s : State) :
    (a.commitTogether s).decStep t k = a.commitTogether (s.decStep t k) := by
  by_cases hlast : s.rc = 0
  · rw [State.decStep_of_last t k hlast]
    exact State.decStep_of_last (s := a.commitTogether s) t k hlast
  · rw [State.decStep_of_not_last t k hlast]
    exact State.decStep_of_not_last (s := a.commitTogether s) t k hlast

theorem State.commitStep_commitTogether (w : Word) (a s : State) :
    (a.commitTogether s).commitStep w = a.commitTogether (s.commitStep w) := by
  by_cases hlast : s.rc = 35
  · rw [State.commitStep_of_last w hlast]
    exact State.commitStep_of_last (s := a.commitTogether s) w hlast
  · rw [State.commitStep_of_not_last w hlast]
    exact State.commitStep_of_not_last (s := a.commitTogether s) w hlast

theorem State.engineStep_commitTogether {t : Tables} (a : State) {s b : State} (hb : s.op ≠ .idle)
    (h : s.engineStep t = .next b) : (a.commitTogether s).engineStep t = .next (a.commitTogether b) := by
  obtain ⟨hop, -⟩ | ⟨hop, hr, rfl⟩ | ⟨hop, hr, rfl⟩ | ⟨hop, hr, hk, rfl⟩ := State.engineStep_cases h
  · exact absurd hop hb
  · rw [← State.encStep_commitTogether]
    exact State.engineStep_enc (s := a.commitTogether s) t hop hr
  · rw [← State.decStep_commitTogether]
    exact State.engineStep_dec (s := a.commitTogether s) t hop hr
  · rw [← State.commitStep_commitTogether]
    exact State.engineStep_commit (s := a.commitTogether s) t hop hr hk

/-- The engine step after a transaction commits the transaction's result and that of the engine step before
it together. -/
theorem TransactionEffect.engineStep_eq {t : Tables} {s a b : State} (he : TransactionEffect s a)
    (h : s.engineStep t = .next b) (hb : s.op ≠ .idle) : a.engineStep t = .next (a.commitTogether b) := by
  simpa only [he.commitTogether_eq hb] using State.engineStep_commitTogether a hb h

/-- No engine step changes the key buffer or the coming inputs. -/
theorem State.engineStep_keeps {t : Tables} {s u : State} (h : s.engineStep t = .next u) :
    u.mkey = s.mkey ∧ u.keylen = s.keylen ∧ u.bus = s.bus := by
  obtain ⟨-, rfl⟩ | ⟨-, _, rfl⟩ | ⟨-, _, rfl⟩ | ⟨-, _, _, rfl⟩ := State.engineStep_cases h
  · exact ⟨rfl, rfl, rfl⟩
  all_goals simp

/-- Settles O10: the cycle is the engine step after the transaction, which is the simultaneous commit. -/
theorem transactionAndEngineStepCommitTogether : Obligations.TransactionAndEngineStepCommitTogether := by
  intro t s p rest bytes i a b hb hbus hr hstall htx hd ha hengine
  have he : TransactionEffect _ a := TransactionEffect.of_exec ha
  have hstep : stepWith t s = .next (a.commitTogether b) := by
    calc stepWith t s
        _ = enginePart t s.op p.stall a := stepWith_of_decode t hbus hr htx hd ha
        _ = a.engineStep t := if_neg (by simp [hb, hstall])
        _ = .next (a.commitTogether b) := he.engineStep_eq hengine hb
  obtain ⟨hmkey, hkeylen, hrest⟩ := State.engineStep_keeps hengine
  exact ⟨_, hstep, ⟨rfl, rfl, rfl, rfl, rfl, rfl, rfl, hrest⟩,
    ⟨rfl, rfl, rfl, rfl, rfl, rfl, rfl, rfl, rfl⟩, hmkey, hkeylen, rfl⟩

/-! ## A cycle completes (R61, R210) -/

/-- In a COMMIT KP names an entry of the key buffer, because it stays below KEYLEN. -/
theorem State.Inv.kp_lt {s : State} (h : s.Inv) (hop : s.op = .commit) : s.kp.toNat < 36 := by
  obtain ⟨-, hpos⟩ := h.commit_has_key hop
  calc s.kp.toNat
      _ = s.rc.toNat % s.keylen.toNat := h.kp_eq hop
      _ < s.keylen.toNat := Nat.mod_lt _ hpos
      _ ≤ 36 := h.keylen_le

theorem State.Inv.engineStep_next {s : State} (h : s.Inv) (t : Tables) : ∃ u, s.engineStep t = .next u := by
  have hrc (hb : s.op ≠ .idle) : s.rc.toNat < 36 := Nat.lt_succ_of_le (h.rc_le hb)
  cases hop : s.op with
  | idle => exact ⟨_, State.engineStep_idle t hop⟩
  | enc => exact ⟨_, State.engineStep_enc t hop (hrc (by simp [hop]))⟩
  | dec => exact ⟨_, State.engineStep_dec t hop (hrc (by simp [hop]))⟩
  | commit => exact ⟨_, State.engineStep_commit t hop (hrc (by simp [hop])) (h.kp_lt hop)⟩

theorem State.Inv.enginePart_next {v : State} (h : v.Inv) (t : Tables) (atStart : Op) (stall : Bool) :
    ∃ u, enginePart t atStart stall v = .next u := by
  unfold enginePart
  split
  · exact ⟨v, rfl⟩
  · exact h.engineStep_next t

/-- Settles O49: a reset completes; otherwise the transaction answers a state of the invariant, from which
the engine's part finds the entries it reads. -/
theorem everyExpressibleCycleCompletes : Obligations.EveryExpressibleCycleCompletes := by
  intro t s h hx
  cases hr : s.portInput.rst with
  | true => exact ⟨_, stepWith_of_rst t hr⟩
  | false =>
    obtain ⟨v, hv, he⟩ := hostPart_of_expressible s.portInput s.beginCycle hx
    rw [stepWith_of_hostPart t hr hv]
    exact (he.inv h.beginCycle).enginePart_next t s.op s.portInput.stall

end Sys2Proof.Machine
end

section
/-! The register space (R63, R64): a read is MemRead and a write is MemWrite, a CMD write with the checks of
R84 in their order. -/

namespace Sys2Proof

/-- What the decoder does with the three fields of a word: W, A and D (R80). -/
theorem decodeTx_fields (w : BitVec 1) (a : Index) (d : Word) :
    decodeTx (w ++ a ++ d) = if w.getLsbD 0 then decodeWrite a d else decodeRead a := by
  have hw : (w ++ a).getLsbD 4 = w.getLsbD 0 := BitVec.getLsbD_append
  have ha : (w ++ a).extractLsb' 0 4 = a := BitVec.extractLsb'_append_eq_right
  exact (decodeTx_append (w ++ a) d).trans (by rw [hw, ha])

theorem decodeTx_read (a : Index) (d : Word) : decodeTx (0#1 ++ a ++ d) = decodeRead a :=
  decodeTx_fields 0#1 a d

theorem decodeTx_write (a : Index) (v : Word) : decodeTx (1#1 ++ a ++ v) = decodeWrite a v :=
  decodeTx_fields 1#1 a v

end Sys2Proof

namespace Sys2Proof.Machine

/-! ## A read -/

/-- Settles O30: the decoder forgets D, and each of the sixteen reads puts its own register out. -/
theorem everyReadIsMemRead : Obligations.EveryReadIsMemRead := by
  intro a d s
  rw [decodeTx_read]
  obtain ⟨i⟩ := a
  fin_cases i <;> rfl

/-! ## A CMD or KEYIN write -/

/-- Admission as a case split on OP. -/
theorem State.whenIdle_eq_ite (act : State → State) (s : State) :
    s.whenIdle act = if s.op ≠ .idle then s.raiseError .busy else act s := by
  by_cases hop : s.op = .idle
  · rw [State.whenIdle_of_idle hop, if_neg (not_not_intro hop)]
  · rw [State.whenIdle_of_busy hop, if_pos hop]
    rfl

theorem State.writeKeyin_eq_whenIdle (d : Word) (s : State) : s.writeKeyin d = s.whenIdle (State.pushKey d) :=
  (s.whenIdle_eq_ite _).symm

/-- The check of R84 finds illegal exactly the words above 0x0004. -/
theorem cmdIllegal_iff (d : Word) : cmdReserved d ≠ 0 ∨ 4 < (cmdOpcode d).toNat ↔ 4 < d.toNat := by
  have hd := d.isLt
  simp only [cmdReserved, cmdOpcode, ne_eq, ← BitVec.toNat_inj, BitVec.extractLsb'_toNat,
    Nat.shiftRight_eq_div_pow, BitVec.ofNat_eq_ofNat, BitVec.toNat_ofNat]
  omega

theorem State.writeCmd_of_legal {d : Word} (h : d.toNat ≤ 4) (s : State) :
    s.writeCmd d = s.whenIdle (State.runCommand (cmdOpcode d)) := by
  have hlegal := (cmdIllegal_iff d).not.mpr (Nat.not_lt.mpr h)
  rw [State.writeCmd, if_neg hlegal, State.whenIdle_eq_ite]

theorem State.writeCmd_of_illegal {d : Word} (h : 4 < d.toNat) (s : State) :
    s.writeCmd d = s.whenIdle (State.raiseError .illegalCmd) := by
  rw [State.writeCmd, if_pos ((cmdIllegal_iff d).mpr h), State.whenIdle_eq_ite]

/-- The five legal words are the five commands, and every other word is illegal. -/
theorem exec_decodeCmd (d : Word) (s : State) : exec (decodeCmd d) s = .next (s.writeCmd d) := by
  unfold decodeCmd
  split_ifs with h0 h1 h2 h3 h4
  case neg =>
    have h : 4 < d.toNat := by bv_omega
    rw [State.writeCmd_of_illegal h]
    rfl
  all_goals
    subst d
    rw [State.writeCmd_of_legal (by decide)]
    rfl

/-! ## A write -/

/-- Settles O31: a CMD and a KEYIN write run behind their checks; the other fourteen writes are MemWrite
as they stand. -/
theorem everyWriteIsMemWrite : Obligations.EveryWriteIsMemWrite := by
  intro a v s
  rw [decodeTx_write]
  obtain ⟨i⟩ := a
  fin_cases i
  · exact exec_decodeCmd v s
  · rfl
  · rfl
  · exact congrArg Host.Outcome.next (s.writeKeyin_eq_whenIdle v).symm
  all_goals rfl

end Sys2Proof.Machine
end

section
/-! Encoding: the bytes of a word, the decoder and the encoder as inverses (R80, R81, R83), and the refusal of
bytes that are no word (R218, I12). -/

namespace Sys2Proof

/-! ## The fields of a word put together again -/

/-- A word is its top five bits, W and A, and then D (R80). -/
theorem tx_eq_top_append_data (w : Tx) : w.extractLsb' 16 5 ++ txData w = w :=
  BitVec.extractLsb'_append_extractLsb'

theorem txOfWrite_fields {w : Tx} (hw : txWrite w = true) : txOfWrite (txIndex w) (txData w) = w := by
  have hbit : w.extractLsb' 20 1 = 1#1 := by
    apply BitVec.eq_of_getLsbD_eq
    intro i hi
    obtain rfl : i = 0 := by omega
    simpa [txWrite] using hw
  have htop : 1#1 ++ txIndex w = w.extractLsb' 16 5 := by
    rw [← hbit]
    exact BitVec.extractLsb'_append_extractLsb'_eq_extractLsb' rfl
  calc txOfWrite (txIndex w) (txData w)
      _ = w.extractLsb' 16 5 ++ txData w := congrArg (· ++ txData w) htop
      _ = w := tx_eq_top_append_data w

/-! ## The three bytes of a word (log 6) -/

theorem byte_top_eq_zero_iff (b : Byte) : b.extractLsb' 5 3 = 0 ↔ b.toNat < 32 := by
  have hb := b.isLt
  simp only [← BitVec.toNat_inj, BitVec.extractLsb'_toNat, Nat.shiftRight_eq_div_pow, BitVec.ofNat_eq_ofNat,
    BitVec.toNat_ofNat]
  omega

theorem decode_of_lt {b0 b1 b2 : Byte} (h : b2.toNat < 32) :
    decode [b0, b1, b2] = .ok (decodeTx (txOfBytes b0 b1 b2)) :=
  if_pos ((byte_top_eq_zero_iff b2).mpr h)

theorem decode_of_tooWide {b0 b1 b2 : Byte} (h : 32 ≤ b2.toNat) : decode [b0, b1, b2] = .error .tooWide :=
  if_neg ((byte_top_eq_zero_iff b2).not.mpr (Nat.not_lt.mpr h))

theorem decode_of_wrongLength {bytes : List Byte} (h : bytes.length ≠ 3) :
    decode bytes = .error .wrongLength := by
  match bytes, h with
  | [], _ | [_], _ | [_, _], _ | _ :: _ :: _ :: _ :: _, _ => rfl

theorem decode_bytesOfTx (w : Tx) : decode (bytesOfTx w) = .ok (decodeTx w) := by
  have hlt : ((w.extractLsb' 16 5).setWidth 8).toNat < 32 := by
    have := (w.extractLsb' 16 5).isLt
    rw [BitVec.toNat_setWidth]
    omega
  rw [bytesOfTx, decode_of_lt hlt, txOfBytes_bytesOfTx]

/-! ## The decoder gives back an encoded instruction -/

/-- The D of the five CMD writes that are commands (R83). -/
def legalCommands : List Word := [0x0000, 0x0001, 0x0002, 0x0003, 0x0004]

theorem Instr.wf_cmdIllegal_iff (d : Word) : (Instr.cmdIllegal d).wf = true ↔ d ∉ legalCommands := by
  simp [Instr.wf, legalCommands, and_assoc]

theorem decodeCmd_of_illegal {d : Word} (h : d ∉ legalCommands) : decodeCmd d = .cmdIllegal d := by
  simp only [legalCommands, List.mem_cons, List.not_mem_nil, or_false, not_or] at h
  obtain ⟨h0, h1, h2, h3, h4⟩ := h
  rw [decodeCmd, if_neg h0, if_neg h1, if_neg h2, if_neg h3, if_neg h4]

theorem decodeTx_encode {i : Instr} (h : i.wf = true) : decodeTx (encode i) = i := by
  cases i with
  | cmdIllegal d => exact (decodeTx_append 0x10#5 d).trans (decodeCmd_of_illegal ((Instr.wf_cmdIllegal_iff d).mp h))
  | nop | keyClear | keyCommit | encrypt | decrypt => rfl
  | wrStatus | wrConfig | wrKeyin | wrKeylen | wrDin0 | wrDin1 | wrDout0 | wrDout1 | wrRksel | wrRkdata
  | wrRounds | wrRsvdC | wrRsvdD | wrRsvdE | wrRsvdF => exact decodeTx_append _ _
  | rdCmd | rdStatus | rdConfig | rdKeyin | rdKeylen | rdDin0 | rdDin1 | rdDout0 | rdDout1 | rdRksel
  | rdRkdata | rdRounds | rdRsvdC | rdRsvdD | rdRsvdE | rdRsvdF => rfl

/-- Settles O1: the bytes carry the canonical word, which decodes to its instruction. -/
theorem decodeOfEncodeIsTheInstruction : Obligations.DecodeOfEncodeIsTheInstruction := by
  intro i h
  rw [encodeBytes, decode_bytesOfTx, decodeTx_encode h]

/-! ## The encoder gives back a decoded word -/

theorem decodeCmd_canonical (d : Word) : (decodeCmd d).wf = true ∧ encode (decodeCmd d) = txOfWrite 0 d := by
  by_cases hd : d ∈ legalCommands
  · fin_cases hd <;> exact ⟨rfl, rfl⟩
  · rw [decodeCmd_of_illegal hd]
    exact ⟨(Instr.wf_cmdIllegal_iff d).mpr hd, rfl⟩

theorem decodeWrite_canonical (a : Index) (d : Word) :
    (decodeWrite a d).wf = true ∧ encode (decodeWrite a d) = txOfWrite a d := by
  obtain ⟨i⟩ := a
  fin_cases i
  · exact decodeCmd_canonical d
  all_goals exact ⟨rfl, rfl⟩

theorem decodeRead_canonical (a : Index) : (decodeRead a).wf = true ∧ encode (decodeRead a) = txOfRead a := by
  obtain ⟨i⟩ := a
  fin_cases i <;> exact ⟨rfl, rfl⟩

/-- Settles O2: a write keeps its three fields, and a read forgets D. -/
theorem encodeOfDecodeIsCanonical : Obligations.EncodeOfDecodeIsCanonical := by
  intro w
  cases hw : txWrite w with
  | true => simpa [decodeTx, hw, txOfWrite_fields hw] using decodeWrite_canonical (txIndex w) (txData w)
  | false => simpa [decodeTx, hw] using decodeRead_canonical (txIndex w)

/-- Settles O4: the decoder run on each word. -/
theorem sampleWordsDecode : Obligations.SampleWordsDecode :=
  ⟨rfl, rfl, rfl, rfl, rfl, rfl, rfl, rfl⟩

end Sys2Proof

namespace Sys2Proof.Machine

/-- A cycle without reset whose bytes do not decode is refused with the decoder's reason. -/
theorem stepWith_of_decode_error (t : Tables) {s : State} {p : PortInput} {rest : List PortInput}
    {bytes : List Byte} {why : DecodeError} (hbus : s.bus = p :: rest) (hr : p.rst = false)
    (htx : p.tx = some bytes) (hd : decode bytes = .error why) :
    stepWith t s = .refused (.notATransaction why) := by
  simp [stepWith, runCycle, State.portInput_of_bus hbus, hr, htx, hostPart, hd]

/-- Settles O5: the decoder by the number of bytes and the third of them, and the cycle by the decoder. -/
theorem inexpressibleTransactionsAreRefused : Obligations.InexpressibleTransactionsAreRefused :=
  ⟨fun _ h => decode_of_wrongLength h, fun _ _ _ h => decode_of_tooWide h, fun _ _ _ h => ⟨_, decode_of_lt h⟩,
    fun t _ _ _ _ _ hbus hr htx hd => stepWith_of_decode_error t hbus hr htx hd⟩

end Sys2Proof.Machine
end

section
/-! The opcode table (R87): which words a row takes, and that the decoder picks the first row that matches. -/

namespace Sys2Proof

/-! ## The words a row takes -/

/-- A row with the mask of W and A takes a word by its top five bits. -/
theorem TableRow.matches_append {row : TableRow} (h : row.mask = 0x1F0000) (a : BitVec 5) (d : Word) :
    row.matches (a ++ d) = decide (a ++ 0#16 = row.value) := by
  simp only [TableRow.matches, h]
  exact congrArg (fun v : Tx => decide (v = row.value)) (Laws.TableRow.top_of_append a d)

/-- An exact row takes one word. -/
theorem TableRow.matches_exact {row : TableRow} (h : row.mask = 0x1FFFFF) (w : Tx) :
    row.matches w = decide (w = row.value) := by
  have hw : w &&& 0x1FFFFF = w := BitVec.and_allOnes
  simp only [TableRow.matches, h, hw]

/-- The exact rows are rows of CMD writes. -/
theorem opcodeRows_masks : ∀ row ∈ opcodeRows,
    row.mask = 0x1F0000 ∨ row.mask = 0x1FFFFF ∧ row.value.extractLsb' 16 5 = 0x10#5 := by decide

/-- Beside CMD writes, whether a row takes a word does not depend on D. -/
theorem TableRow.matches_data {row : TableRow} (hrow : row ∈ opcodeRows) {a : BitVec 5} (ha : a ≠ 0x10#5)
    (d d' : Word) : row.matches (a ++ d) = row.matches (a ++ d') := by
  obtain hmask | ⟨hmask, htop⟩ := opcodeRows_masks row hrow
  · rw [TableRow.matches_append hmask, TableRow.matches_append hmask]
  · have hne (v : Word) : a ++ v ≠ row.value := fun h =>
      ha (by rw [← htop, ← h]; exact BitVec.extractLsb'_append_eq_left.symm)
    rw [TableRow.matches_exact hmask, TableRow.matches_exact hmask, decide_eq_false (hne d),
      decide_eq_false (hne d')]

/-! ## The first row that takes a word -/

/-- The name of the first row of the table that takes a word. -/
def firstRowName (w : Tx) : Option String :=
  (opcodeRows.find? fun row => row.matches w).map fun row => row.mnemonic

theorem firstRowName_data {a : BitVec 5} (ha : a ≠ 0x10#5) (d d' : Word) :
    firstRowName (a ++ d) = firstRowName (a ++ d') :=
  congrArg (Option.map _) (List.find?_congr fun _ hrow => TableRow.matches_data hrow ha d d')

theorem top_eq_of_command : ∀ a : BitVec 5, a.getLsbD 4 = true → a.extractLsb' 0 4 = 0 → a = 0x10#5 := by
  decide

theorem mnemonic_decodeWrite_data {a : Index} (ha : a ≠ 0) (d d' : Word) :
    (decodeWrite a d).mnemonic = (decodeWrite a d').mnemonic := by
  obtain ⟨i⟩ := a
  fin_cases i
  · exact absurd rfl ha
  all_goals rfl

theorem mnemonic_decodeTx_data {a : BitVec 5} (ha : a ≠ 0x10#5) (d d' : Word) :
    (decodeTx (a ++ d)).mnemonic = (decodeTx (a ++ d')).mnemonic := by
  rw [decodeTx_append, decodeTx_append]
  cases hw : a.getLsbD 4 with
  | true => exact mnemonic_decodeWrite_data (mt (top_eq_of_command a hw) ha) d d'
  | false => rfl

theorem firstRowName_zero_data (a : BitVec 5) :
    firstRowName (a ++ 0#16) = some (decodeTx (a ++ 0#16)).mnemonic := by
  obtain ⟨i⟩ := a
  fin_cases i <;> rfl

/-- The row that every CMD write matches, and that only the exact rows come before. -/
def fallbackRow : TableRow := ⟨"CMD_ILLEGAL", 0x100000, 0x1F0000⟩

theorem fallbackRow_matches (d : Word) : fallbackRow.matches (0x10#5 ++ d) = true :=
  TableRow.matches_append rfl 0x10#5 d

theorem rows_before_fallbackRow : ∀ row ∈ commandRows.take 5,
    row.mask = 0x1FFFFF ∧ row.value ∈ legalCommands.map (0x10#5 ++ ·) := by decide

/-- No row before the fallback takes an illegal command word. -/
theorem TableRow.not_matches_illegal {row : TableRow} (hrow : row ∈ commandRows.take 5) {d : Word}
    (hd : d ∉ legalCommands) : row.matches (0x10#5 ++ d) = false := by
  obtain ⟨hmask, hvalue⟩ := rows_before_fallbackRow row hrow
  obtain ⟨v, hv, hvalue⟩ := List.mem_map.mp hvalue
  have hne : 0x10#5 ++ d ≠ 0x10#5 ++ v := fun h => hd ((BitVec.append_right_inj _).mp h ▸ hv)
  rw [TableRow.matches_exact hmask, ← hvalue]
  exact decide_eq_false hne

/-- The five exact rows take the five legal words, and the fallback every other CMD write. -/
theorem firstRowName_command (d : Word) : firstRowName (0x10#5 ++ d) = some (decodeCmd d).mnemonic := by
  by_cases hd : d ∈ legalCommands
  · fin_cases hd <;> rfl
  · have hfind : opcodeRows.find? (fun row => row.matches (0x10#5 ++ d)) = some fallbackRow :=
      List.find?_eq_some_iff_append.mpr ⟨fallbackRow_matches d, commandRows.take 5, writeRows ++ readRows, rfl,
        fun _ hrow => congrArg not (TableRow.not_matches_illegal hrow hd)⟩
    rw [firstRowName, hfind, decodeCmd_of_illegal hd]
    rfl

theorem firstRowName_eq (w : Tx) : firstRowName w = some (decodeTx w).mnemonic := by
  rw [← tx_eq_top_append_data w]
  by_cases ha : w.extractLsb' 16 5 = 0x10#5
  · rw [ha, decodeTx_append]
    exact firstRowName_command (txData w)
  · rw [firstRowName_data ha (txData w) 0#16, firstRowName_zero_data, mnemonic_decodeTx_data ha]

/-! ## The other rows -/

theorem rows_after_fallbackRow : (writeRows ++ readRows).Pairwise fun a b =>
    a.mask = 0x1F0000 ∧ b.mask = 0x1F0000 ∧ a.value ≠ b.value := by decide

theorem TableRow.value_of_matches {row : TableRow} (hmask : row.mask = 0x1F0000) {w : Tx}
    (h : row.matches w = true) : w &&& 0x1F0000 = row.value := by
  simpa [TableRow.matches, hmask] using h

theorem eq_append_of_command {w : Tx} (hw : txWrite w = true) (ha : txIndex w = 0) : w = 0x10#5 ++ txData w :=
  calc w
      _ = txOfWrite (txIndex w) (txData w) := (txOfWrite_fields hw).symm
      _ = txOfWrite 0 (txData w) := by rw [ha]

/-- Settles O3: beside CMD writes the first row depends on the top five bits only; among CMD writes the exact
rows take the legal words and the fallback the rest; two other rows that matched one word would have one value. -/
theorem decoderFollowsTheOpcodeTable : Obligations.DecoderFollowsTheOpcodeTable := by
  refine ⟨firstRowName_eq, rfl, rfl, fun w hw ha row hrow hname => ?_, by decide,
    rows_after_fallbackRow.imp fun ⟨ha, hb, hne⟩ w hab => ?_⟩
  · have honly : ∀ row ∈ commandRows, row.mnemonic = "CMD_ILLEGAL" → row = fallbackRow := by decide
    rw [honly row hrow hname, eq_append_of_command hw ha]
    exact fallbackRow_matches (txData w)
  · exact hne ((TableRow.value_of_matches ha hab.1).symm.trans (TableRow.value_of_matches hb hab.2))

end Sys2Proof
end

section
/-! The accepts of KEY_CLEAR, KEY_COMMIT, ENCRYPT and DECRYPT (R84, R121, R124, R140, R141): the admission
first, then the command's own check, then its start. -/

namespace Sys2Proof.Machine

/-- Settles O12: nothing but the admission guards KEY_CLEAR. -/
theorem keyClearEndsTheInstance : Obligations.KeyClearEndsTheInstance :=
  ⟨by decide, fun _ => ⟨fun hb => congrArg _ (State.whenIdle_of_busy hb _),
    fun hidle => congrArg _ (State.whenIdle_of_idle hidle _)⟩⟩

theorem exec_keyCommit_of_idle {s : State} (h : s.op = .idle) : exec .keyCommit s =
    .next (if s.keylen = 0 then s.raiseError .invalidArgument else s.startCommit) :=
  congrArg _ (State.whenIdle_of_idle h _)

/-- Settles O13: behind the admission KEY_COMMIT checks that the key is not empty. -/
theorem keyCommitAccept : Obligations.KeyCommitAccept :=
  ⟨by decide, fun _ => ⟨fun hb => congrArg _ (State.whenIdle_of_busy hb _),
    fun hidle hempty => (exec_keyCommit_of_idle hidle).trans (congrArg _ (if_pos hempty)),
    fun hidle hkey => (exec_keyCommit_of_idle hidle).trans (congrArg _ (if_neg hkey))⟩⟩

/-- The meaning of a cipher command (R84): it records BUSY, with KEYVALID = 0 records NO_KEY, or
starts. -/
theorem State.next_whenIdle_keyed (start : State → State) (s : State) :
    let out : Host.Outcome State Fault Refusal :=
      .next (s.whenIdle fun s => if s.keyvalid then start s else s.raiseError .noKey)
    (s.op ≠ .idle → out = .next (s.recorded 4)) ∧
    (s.op = .idle → s.keyvalid = false → out = .next (s.recorded 2)) ∧
    (s.op = .idle → s.keyvalid = true → out = .next (start s)) := by
  refine ⟨fun hb => ?_, fun hidle hkey => ?_, fun hidle hkey => ?_⟩
  · rw [State.whenIdle_of_busy hb]
  · rw [State.whenIdle_of_idle hidle, hkey]
    rfl
  · rw [State.whenIdle_of_idle hidle, if_pos hkey]

/-- Settles O14: ENCRYPT is the cipher command that starts with the block in L and R. -/
theorem encryptAccept : Obligations.EncryptAccept :=
  ⟨by decide, State.next_whenIdle_keyed State.startEncrypt⟩

/-- Settles O15: DECRYPT is the cipher command that starts with the block crosswise in L and R. -/
theorem decryptAccept : Obligations.DecryptAccept :=
  ⟨by decide, State.next_whenIdle_keyed State.startDecrypt⟩

end Sys2Proof.Machine
end

section
/-! The round datapath (R100 to R104): Sub by its lanes, Perm by the destinations of its bits, and F as the
XOR of the key to both. -/

namespace Sys2Proof.Machine

/-! ## The substitution -/

/-- Lane j of Sub is the lookup of lane j of its operand (R101). -/
theorem subNibbles_lane (t : Tables) (x : Word) {j : Nat} (hj : j < 4) :
    (subNibbles t x).extractLsb' (4 * j) 4 = sboxLookup t (x.extractLsb' (4 * j) 4) := by
  interval_cases j
  · exact BitVec.extractLsb'_append_eq_right
  · exact (BitVec.extractLsb'_append_eq_of_le (by decide)).trans BitVec.extractLsb'_append_eq_right
  · exact (BitVec.extractLsb'_append_eq_of_le (by decide)).trans
      ((BitVec.extractLsb'_append_eq_of_le (by decide)).trans BitVec.extractLsb'_append_eq_right)
  · exact (BitVec.extractLsb'_append_eq_of_le (by decide)).trans
      ((BitVec.extractLsb'_append_eq_of_le (by decide)).trans BitVec.extractLsb'_append_eq_left)

/-- The four lanes cover the word. -/
theorem eq_of_lanes_eq {x y : Word} (h : ∀ j < 4, x.extractLsb' (4 * j) 4 = y.extractLsb' (4 * j) 4) :
    x = y := by
  apply BitVec.eq_of_getLsbD_eq
  intro i hi
  have hbit := congrArg (fun n : Nibble => n.getLsbD (i % 4)) (h (i / 4) (by omega))
  simpa [Nat.mod_lt, Nat.div_add_mod] using hbit

theorem sboxLookup_injective {t : Tables} (h : Function.Injective t.sbox) :
    Function.Injective (sboxLookup t) := by
  intro m n hmn
  have hval : (t.sbox m.toFin).val = (t.sbox n.toFin).val := by
    rw [← sboxLookup_toNat, ← sboxLookup_toNat, hmn]
  exact BitVec.eq_of_toFin_eq (h (Fin.ext hval))

theorem subNibbles_injective {t : Tables} (h : Function.Injective t.sbox) :
    Function.Injective (subNibbles t) := by
  intro x y hxy
  refine eq_of_lanes_eq fun j hj => sboxLookup_injective h ?_
  rw [← subNibbles_lane t x hj, ← subNibbles_lane t y hj, hxy]

/-- Settles O55: Sub is a lookup in each lane; the lanes of the operand can be told from the looked-up ones,
and an injection of a finite type into itself is a bijection. -/
theorem subActsOnEachNibbleLane : Obligations.SubActsOnEachNibbleLane :=
  ⟨fun t x j hj => by rw [subNibbles_lane t x hj, sboxLookup_toNat],
    fun _ h => Finite.injective_iff_bijective.mp (subNibbles_injective h)⟩

/-! ## The permutation -/

/-- An output bit is set when some source bit that moves to it is (R102). -/
theorem permBits_getLsbD (t : Tables) (x : Word) {j : Nat} (hj : j < 16) :
    (permBits t x).getLsbD j = true ↔ ∃ i : Fin 16, x.getLsbD i.val = true ∧ (t.perm i).val = j := by
  rw [permBits, permBits_fold_getLsbD t x 0 _ j hj]
  simp

theorem permBits_zero (t : Tables) : permBits t 0 = 0 := by
  apply BitVec.eq_of_getLsbD_eq
  intro j hj
  rw [Bool.eq_iff_iff, permBits_getLsbD t 0 hj]
  simp

/-- With a bijective PERM the destinations are all sixteen bits. -/
theorem eq_of_destinations_eq {t : Tables} (h : Function.Injective t.perm) {x y : Word}
    (hxy : ∀ i : Fin 16, x.getLsbD (t.perm i).val = y.getLsbD (t.perm i).val) : x = y := by
  apply BitVec.eq_of_getLsbD_eq
  intro j hj
  obtain ⟨i, hi⟩ := Finite.surjective_of_injective h ⟨j, hj⟩
  simpa [hi] using hxy i

/-- PERM[i] is the destination of source bit i (R103): no other source bit moves to it. -/
theorem permBits_destination {t : Tables} (h : Function.Injective t.perm) (x : Word) (i : Fin 16) :
    (permBits t x).getLsbD (t.perm i).val = x.getLsbD i.val := by
  rw [Bool.eq_iff_iff, permBits_getLsbD t x (t.perm i).isLt]
  simp [Fin.val_inj, h.eq_iff]

theorem permBits_allOnes {t : Tables} (h : Function.Injective t.perm) : permBits t 0xFFFF = 0xFFFF := by
  have hone (i : Fin 16) : (0xFFFF : Word).getLsbD i.val = true := by
    revert i
    decide
  refine eq_of_destinations_eq h fun i => ?_
  rw [permBits_destination h, hone, hone]

theorem permBits_xor {t : Tables} (h : Function.Injective t.perm) (x y : Word) :
    permBits t (x ^^^ y) = permBits t x ^^^ permBits t y := by
  refine eq_of_destinations_eq h fun i => ?_
  simp only [BitVec.getLsbD_xor, permBits_destination h]

/-- PERM is a bijection of the set bits of the operand with those of the result. -/
theorem card_setBits_permBits {t : Tables} (h : Function.Injective t.perm) (x : Word) :
    (Finset.univ.filter fun j : Fin 16 => (permBits t x).getLsbD j.val = true).card
      = (Finset.univ.filter fun i : Fin 16 => x.getLsbD i.val = true).card :=
  (Finset.card_bijective t.perm (Finite.injective_iff_bijective.mp h) fun i => by
    simp only [Finset.mem_filter_univ, permBits_destination h]).symm

theorem permBits_injective {t : Tables} (h : Function.Injective t.perm) :
    Function.Injective (permBits t) := by
  intro x y hxy
  apply BitVec.eq_of_getLsbD_eq
  intro i hi
  calc x.getLsbD i
      _ = (permBits t x).getLsbD (t.perm ⟨i, hi⟩).val := (permBits_destination h x ⟨i, hi⟩).symm
      _ = (permBits t y).getLsbD (t.perm ⟨i, hi⟩).val := by rw [hxy]
      _ = y.getLsbD i := permBits_destination h y ⟨i, hi⟩

/-- Settles O56: where a source bit goes decides every corner case of R102, since each output bit is the
destination of one source bit. -/
theorem permMovesBitToItsDestination : Obligations.PermMovesBitToItsDestination :=
  ⟨permBits_zero, fun _ h => ⟨permBits_destination h, permBits_allOnes h, card_setBits_permBits h,
    permBits_xor h, Finite.injective_iff_bijective.mp (permBits_injective h)⟩⟩

/-! ## The round function -/

theorem subNibbles_id (perm : Fin 16 → Fin 16) (x : Word) : subNibbles { sbox := id, perm } x = x := by
  refine eq_of_lanes_eq fun j hj => ?_
  rw [subNibbles_lane _ x hj, ← BitVec.toNat_inj, sboxLookup_toNat]
  rfl

theorem permBits_id (sbox : Fin 16 → Fin 16) (x : Word) : permBits { sbox, perm := id } x = x :=
  have h : Function.Injective (Tables.perm { sbox, perm := id }) := Function.injective_id
  eq_of_destinations_eq h (permBits_destination h x)

theorem roundF_identity (x k : Word) : roundF { sbox := id, perm := id } x k = x ^^^ k := by
  rw [roundF, subNibbles_id, permBits_id]

theorem roundF_xor_roundF (t : Tables) (x k k' : Word) : roundF t x k ^^^ roundF t x k' = k ^^^ k' := by
  simp only [roundF]
  rw [BitVec.xor_comm _ k, BitVec.xor_assoc, ← BitVec.xor_assoc _ _ k', BitVec.xor_self, BitVec.zero_xor]

/-- Settles O57: the identity tables change neither lane nor bit, and the key enters only by the last XOR,
where one and the same Perm(Sub(x)) cancels between two keys. -/
theorem roundFunctionMixesTheKeyLast : Obligations.RoundFunctionMixesTheKeyLast :=
  ⟨roundF_identity, fun t x k k' => ⟨rfl, BitVec.xor_zero, roundF_xor_roundF t x k k'⟩⟩

end Sys2Proof.Machine
end

section
/-! The key schedule (R120), the pushes that fill the key buffer (R122), the COMMIT engine step that fills RK from
it (R125), and the round keys' immutability (R129). -/

namespace Sys2Proof.Machine

/-! ## The key schedule -/

theorem keySchedule_getElem? (key : List Word) (h : key ≠ []) {i : Nat} (hi : i < 36) :
    (keySchedule key h)[i]? = key[i % key.length]? := by
  rw [Vector.getElem?_eq_getElem hi, keySchedule_getElem key h i hi,
    List.getElem?_eq_getElem (Nat.mod_lt i (List.length_pos_iff.mpr h))]

/-- A file that repeats the key at every index is the key's schedule. -/
theorem eq_keySchedule {file : KeyFile} {key : List Word} (h : key ≠ [])
    (hfile : ∀ i < 36, file[i]? = key[i % key.length]?) : file = keySchedule key h := by
  refine Vector.ext fun i hi => Option.some_injective _ ?_
  rw [← Vector.getElem?_eq_getElem, ← Vector.getElem?_eq_getElem, hfile i hi, keySchedule_getElem? key h hi]

/-- An index below 36 reaches no word from the 37th on. -/
theorem keySchedule_take (key : List Word) (h : key ≠ []) (h' : key.take 36 ≠ []) :
    keySchedule key h = keySchedule (key.take 36) h' := by
  refine eq_keySchedule h' fun i hi => ?_
  rw [keySchedule_getElem? key h hi]
  rcases Nat.le_total key.length 36 with hle | hge
  · rw [List.take_of_length_le hle]
  · rw [List.length_take, Nat.min_eq_left hge, Nat.mod_eq_of_lt hi, Nat.mod_eq_of_lt (hi.trans_le hge),
      List.getElem?_take_of_lt hi]

/-- Settles O58: a round key is the key's word at its index modulo the length, which a second reduction leaves
alone. -/
theorem keyScheduleRepeatsTheKey : Obligations.KeyScheduleRepeatsTheKey := by
  refine ⟨fun key h i hi => keySchedule_getElem? key h hi, fun key h i hi => ?_, keySchedule_take⟩
  rw [keySchedule_getElem? key h hi, keySchedule_getElem? key h ((Nat.mod_le _ _).trans_lt hi), Nat.mod_mod]

/-! ## A push -/

theorem exec_wrKeyin_of_idle {s : State} (h : s.op = .idle) (d : Word) :
    exec (.wrKeyin d) s = .next (s.pushKey d) :=
  congrArg _ (State.whenIdle_of_idle h _)

/-- Settles O19: behind the admission a push stores its word while the buffer has room. -/
theorem keyinPushesOneWord : Obligations.KeyinPushesOneWord :=
  ⟨fun d => decodeTx_append 0x13#5 d, fun d _ => ⟨fun hb => congrArg _ (State.whenIdle_of_busy hb _),
    fun hidle hlt => (exec_wrKeyin_of_idle hidle d).trans (congrArg _ (State.pushKey_of_lt d hlt)),
    fun hidle hfull => (exec_wrKeyin_of_idle hidle d).trans
      (congrArg _ (State.pushKey_of_full d (hfull ▸ Nat.le_refl 36)))⟩⟩

/-! ## The COMMIT engine step -/

theorem setIfInBounds_eq_set {file : KeyFile} {i : Nat} (h : i < 36) (w : Word) :
    file.setIfInBounds i w = file.set i w h :=
  Vector.ext fun j hj => by rw [Vector.getElem_setIfInBounds hj, Vector.getElem_set h]

/-- Settles O34: the accesses are in range, so the step is the repeater's, which wraps KP and ends at RC = 35. -/
theorem commitEngineStep : Obligations.CommitEngineStep := by
  refine ⟨fun i s u hop h => ?_, fun t s hop hr hk => ?_⟩
  · obtain ⟨-, -, -, -, -, hmkey, hkeylen, -⟩ :=
      (TransactionEffect.of_exec h).keeps_of_busy (by simp [hop])
    exact ⟨hmkey, hkeylen⟩
  · rw [State.engineStep_commit t hop hr hk, ← setIfInBounds_eq_set hr]
    exact ⟨fun hlast => congrArg _ (State.commitStep_of_last _ hlast),
      fun hlast => congrArg _ (State.commitStep_of_not_last _ hlast)⟩

/-! ## Who changes RK -/

theorem State.engineStep_rkey {t : Tables} {s u : State} (h : s.engineStep t = .next u)
    (hop : s.op ≠ .commit) : u.rkey = s.rkey := by
  obtain ⟨-, rfl⟩ | ⟨-, _, rfl⟩ | ⟨-, _, rfl⟩ | ⟨hcommit, -⟩ := State.engineStep_cases h
  · rfl
  · exact State.encStep_rkey ..
  · exact State.decStep_rkey ..
  · exact absurd hcommit hop

theorem stepWith_rkey {t : Tables} {s u : State} (h : stepWith t s = .next u) (hr : s.portInput.rst = false)
    (hop : s.op ≠ .commit) : u.rkey = s.rkey := by
  obtain ⟨hrst, -⟩ | ⟨-, v, he, -, hcase⟩ := stepWith_cases h
  · simp [hr] at hrst
  obtain ⟨hrkey, -⟩ := he.keeps
  obtain ⟨-, rfl⟩ | ⟨hb, -, hengine⟩ := hcase
  · exact hrkey
  · obtain ⟨hvop, -⟩ := he.keeps_of_busy (s := s.beginCycle) hb
    exact (State.engineStep_rkey hengine (hvop ▸ hop)).trans hrkey

/-- Settles O43: no transaction and no step of a cipher operation writes RK, and in a COMMIT KEYVALID is 0. -/
theorem roundKeysAreImmutable : Obligations.RoundKeysAreImmutable := by
  refine ⟨fun t s u h hr hne => by_contra fun hop => hne (stepWith_rkey h hr hop),
    fun t s u hi h hr hkv => stepWith_rkey h hr fun hop => ?_⟩
  obtain ⟨hno, -⟩ := hi.commit_has_key hop
  simp [hkv] at hno

end Sys2Proof.Machine
end

section
/-! A run of an operation under any host (R149, R240), and the run of a KEY_COMMIT, which fills RK with the key
schedule (R124, R125, R128). -/

namespace Sys2Proof.Machine

/-! ## The run of an operation -/

theorem State.portInput_of_drop {s : State} {bus : List PortInput} {m : Nat} (h : s.bus = bus.drop m) :
    s.portInput = inputAt bus m := by
  rw [State.portInput, h, headD_drop]

/-- Every cycle uses its input up, one with reset too (log 3). -/
theorem stepWith_bus {t : Tables} {s u : State} (h : stepWith t s = .next u) : u.bus = s.bus.tail := by
  obtain ⟨-, rfl⟩ | ⟨-, v, he, -, ⟨-, rfl⟩ | ⟨-, -, hengine⟩⟩ := stepWith_cases h
  · rfl
  · obtain ⟨-, -, -, hbus⟩ := he.keeps
    exact hbus
  · obtain ⟨-, -, -, hbus⟩ := he.keeps
    obtain ⟨-, -, hbus'⟩ := State.engineStep_keeps hengine
    exact hbus'.trans hbus

/-- `P k` describes the states of an operation that has taken `k` of its 36 engine steps: the engine is busy in
them, no transaction leads out of them, and an engine step before the last leads on to `P (k + 1)`. -/
structure OperationProgress (t : Tables) (P : Nat → State → Prop) : Prop where
  busy : ∀ {k s}, P k s → s.op ≠ .idle
  transaction : ∀ {k s u}, P k s → TransactionEffect s.beginCycle u → P k u
  engine : ∀ {k s}, P k s → k < 35 → ∃ u, s.engineStep t = .next u ∧ P (k + 1) u

section
variable {t : Tables} {P : Nat → State → Prop} (hP : OperationProgress t P)
include hP

/-- A cycle of the operation: the transaction leaves the progress as it is, and the engine steps unless it is
held back. -/
theorem OperationProgress.cycle {k : Nat} {s : State} (h : P k s) (hr : s.portInput.rst = false)
    (hx : s.portInput.expressible = true) :
    ∃ v, P k v ∧ stepWith t s = if s.portInput.stall then .next v else v.engineStep t := by
  obtain ⟨v, he, hstep⟩ := stepWith_of_busy t (hP.busy h) hr hx
  exact ⟨v, hP.transaction h he, hstep⟩

/-- A cycle before the one with the last engine step. -/
theorem OperationProgress.cycle_next {k : Nat} {s : State} (h : P k s) (hr : s.portInput.rst = false)
    (hx : s.portInput.expressible = true) (hlt : s.portInput.stall = false → k < 35) :
    ∃ u, stepWith t s = .next u ∧ P (k + if s.portInput.stall then 0 else 1) u := by
  obtain ⟨v, hv, hstep⟩ := hP.cycle h hr hx
  cases hstall : s.portInput.stall with
  | true => exact ⟨v, by simpa [hstall] using hstep, hv⟩
  | false =>
    obtain ⟨u, hengine, hu⟩ := hP.engine hv (hlt hstall)
    exact ⟨u, by simpa [hstall, hengine] using hstep, hu⟩

/-- While fewer than 36 engine steps are taken, their number is the operation's progress. -/
theorem OperationProgress.run {a : State} (h0 : P 0 a) {n : Nat} (hu : UndisturbedThrough a.bus n)
    (hturns : engineTurns a.bus n = 35) : ∀ m ≤ n,
      ∃ v, runCycles t m a = .next v ∧ v.bus = a.bus.drop m ∧ P (engineTurns a.bus m) v := by
  intro m
  induction m with
  | zero => exact fun _ => ⟨a, rfl, rfl, h0⟩
  | succ m ih =>
    intro hm
    obtain ⟨v, hrun, hbus, hv⟩ := ih (by omega)
    obtain ⟨hr, hx⟩ := hu m (by omega)
    have hp := State.portInput_of_drop hbus
    have hmono := engineTurns_mono a.bus hm
    rw [engineTurns_succ] at hmono ⊢
    obtain ⟨u, hnext, hu'⟩ := hP.cycle_next hv (hp ▸ hr) (hp ▸ hx) fun hstall => by
      simp [← hp, hstall] at hmono
      omega
    rw [hp] at hu'
    refine ⟨u, (runCycles_succ t m hrun).trans hnext, ?_, hu'⟩
    rw [stepWith_bus hnext, hbus, List.tail_drop]

/-- The cycle with the 36th engine step ends the run with it. -/
theorem OperationProgress.run_last {a : State} (h0 : P 0 a) {n : Nat} (hu : UndisturbedThrough a.bus n)
    (hturns : engineTurns a.bus n = 35) (hstall : (inputAt a.bus n).stall = false) :
    ∃ w, P 35 w ∧ runCycles t (n + 1) a = w.engineStep t := by
  obtain ⟨v, hrun, hbus, hv⟩ := hP.run h0 hu hturns n le_rfl
  obtain ⟨hr, hx⟩ := hu n le_rfl
  have hp := State.portInput_of_drop hbus
  obtain ⟨w, hw, hstep⟩ := hP.cycle hv (hp ▸ hr) (hp ▸ hx)
  refine ⟨w, hturns ▸ hw, ?_⟩
  rw [runCycles_succ t n hrun, hstep, hp, hstall]
  rfl

end

/-! ## The progress of a KEY_COMMIT -/

/-- The state with an empty error record. -/
def State.forgetError (s : State) : State := { s with err := false, errcode := 0 }

theorem State.commitStep_forgetError (w : Word) (s : State) :
    s.forgetError.commitStep w = (s.commitStep w).forgetError := by
  by_cases hlast : s.rc = 35
  · rw [State.commitStep_of_last w hlast]
    exact State.commitStep_of_last (s := s.forgetError) w hlast
  · rw [State.commitStep_of_not_last w hlast]
    exact State.commitStep_of_not_last (s := s.forgetError) w hlast

/-- A KEY_COMMIT accepted in `s` that has taken `k` engine steps. It meets the invariant but for the error record,
on which the accept depends as little as the steps do. -/
structure State.Committing (s : State) (k : Nat) (v : State) : Prop where
  op : v.op = .commit
  rc : v.rc.toNat = k
  mkey : v.mkey = s.mkey
  keylen : v.keylen = s.keylen
  inv : v.forgetError.Inv

/-- The accept clears KEYVALID, so what RK held before does not matter. -/
theorem State.committing_startCommit {s : State} (hop : s.op = .idle) (hle : s.keylen.toNat ≤ 36)
    (hk : s.keylen ≠ 0) : s.Committing 0 s.startCommit where
  op := rfl
  rc := rfl
  mkey := rfl
  keylen := rfl
  inv :=
    have hidle : State.Inv { s.forgetError with keyvalid := false } :=
      State.inv_of_idle hop hle (fun _ => rfl) (fun hv => by cases hv) errCoded_of_none
    (TransactionEffect.keyCommit (s := { s.forgetError with keyvalid := false }) hop hk).inv hidle

section
variable {s v : State} {k : Nat} (h : s.Committing k v)
include h

theorem State.Committing.keyvalid : v.keyvalid = false :=
  let ⟨hkv, _⟩ := h.inv.commit_has_key h.op
  hkv

theorem State.Committing.transaction {u : State} (he : TransactionEffect v.beginCycle u) :
    s.Committing k u := by
  have hb : v.beginCycle.op ≠ .idle := by simp [h.op]
  obtain ⟨hop, -, -, hrc, -, hmkey, hkeylen, -⟩ := he.keeps_of_busy hb
  refine ⟨hop.trans h.op, (congrArg _ hrc).trans h.rc, hmkey.trans h.mkey, hkeylen.trans h.keylen, ?_⟩
  rw [← he.commitTogether_eq hb]
  exact h.inv.hostSide errCoded_of_none

/-- KP and RC name entries of their files, so the engine step is the repeater's. -/
theorem State.Committing.engineStep (t : Tables) :
    ∃ hk : v.kp.toNat < 36, v.engineStep t = .next (v.commitStep v.mkey[v.kp.toNat]) :=
  have hrc : v.rc.toNat < 36 := Nat.lt_succ_of_le (h.inv.rc_le (by simp [State.forgetError, h.op]))
  have hk : v.kp.toNat < 36 := h.inv.kp_lt h.op
  ⟨hk, State.engineStep_commit t h.op hrc hk⟩

theorem State.Committing.commitStep (hlt : k < 35) (hk : v.kp.toNat < 36) :
    s.Committing (k + 1) (v.commitStep v.mkey[v.kp.toNat]) := by
  have hinv : (v.commitStep v.mkey[v.kp.toNat]).forgetError.Inv :=
    State.commitStep_forgetError _ v ▸ h.inv.commitStep h.op hk
  have hlast : v.rc ≠ 35 := fun hlast => by
    have h35 : 35 = k := by simpa [hlast] using h.rc
    omega
  obtain ⟨hsucc, -⟩ := rc_succ_toNat (h.rc.trans_le hlt.le) hlast
  rw [State.commitStep_of_not_last _ hlast] at hinv ⊢
  exact ⟨h.op, hsucc.trans (congrArg (· + 1) h.rc), h.mkey, h.keylen, hinv⟩

end

theorem State.operationProgress_committing (t : Tables) (s : State) : OperationProgress t s.Committing where
  busy h := by simp [h.op]
  transaction h he := h.transaction he
  engine h hlt := let ⟨hk, hstep⟩ := h.engineStep t; ⟨_, hstep, h.commitStep hlt hk⟩

/-! ## The end of a KEY_COMMIT -/

/-- The first words of MK are the key. -/
theorem State.mkey_getElem?_mod {s : State} (h : s.keyWords ≠ []) (hle : s.keylen.toNat ≤ 36) (i : Nat) :
    s.mkey[i % s.keylen.toNat]? = s.keyWords[i % s.keyWords.length]? := by
  have hpos := List.length_pos_iff.mpr h
  rw [State.keyWords_length hle] at hpos ⊢
  exact (State.keyWords_getElem? (Nat.mod_lt i hpos)).symm

/-- What a KEY_COMMIT of the words `s` holds leaves (R128). -/
structure State.Committed (s : State) (h : s.keyWords ≠ []) (u : State) : Prop where
  op : u.op = .idle
  done : u.done = true
  keyvalid : u.keyvalid = true
  rkey : u.rkey = keySchedule s.keyWords h
  mkey : u.mkey = s.mkey
  keylen : u.keylen = s.keylen

/-- The 36th engine step writes the last word of the schedule. -/
theorem State.Committing.last {s w : State} (hw : s.Committing 35 w) (h : s.keyWords ≠ [])
    (hle : s.keylen.toNat ≤ 36) (t : Tables) : ∃ u, w.engineStep t = .next u ∧ s.Committed h u := by
  obtain ⟨hk, hstep⟩ := hw.engineStep t
  have hwritten : ∀ i < w.rc.toNat + 1,
      (w.rkey.setIfInBounds w.rc.toNat w.mkey[w.kp.toNat])[i]? = w.mkey[i % w.keylen.toNat]? :=
    hw.inv.written_succ hw.op hk
  refine ⟨_, hstep, ?_⟩
  rw [State.commitStep_of_last _ (BitVec.eq_of_toNat_eq hw.rc)]
  refine ⟨rfl, rfl, rfl, eq_keySchedule h fun i hi => ?_, hw.mkey, hw.keylen⟩
  rw [hwritten i (by rw [hw.rc]; exact hi), hw.mkey, hw.keylen, State.mkey_getElem?_mod h hle]

theorem State.keylen_ne_zero {s : State} (h : s.keyWords ≠ []) : s.keylen ≠ 0 := by
  rintro h0
  simp [State.keyWords, h0] at h

/-- A KEY_COMMIT accepted in `s` runs to its end under any host. -/
theorem runCycles_startCommit (t : Tables) {s : State} {n : Nat} (h : s.keyWords ≠ []) (hop : s.op = .idle)
    (hle : s.keylen.toNat ≤ 36) (hu : UndisturbedThrough s.bus n) (hturns : engineTurns s.bus n = 35)
    (hstall : (inputAt s.bus n).stall = false) :
    ∃ u, runCycles t (n + 1) s.startCommit = .next u ∧ s.Committed h u := by
  have h0 := State.committing_startCommit hop hle (State.keylen_ne_zero h)
  obtain ⟨w, hw, hrun⟩ := (State.operationProgress_committing t s).run_last h0 hu hturns hstall
  rw [hrun]
  exact hw.last h hle t

/-- Settles O39: from the accept on every cycle is a COMMIT in progress, until the 36th engine step. -/
theorem commitFillsTheRoundKeyFile : Obligations.CommitFillsTheRoundKeyFile := by
  intro t s n h hop hle hu hturns hstall
  have hk := State.keylen_ne_zero h
  obtain ⟨u, hrun, hend⟩ := runCycles_startCommit t h hop hle hu hturns hstall
  refine ⟨s.startCommit, u, (exec_keyCommit_of_idle hop).trans (congrArg _ (if_neg hk)), hrun, hend.op, hend.done,
    hend.keyvalid, hend.rkey, hend.mkey, hend.keylen, fun m hm => ?_⟩
  obtain ⟨v, hv, -, hc⟩ := (State.operationProgress_committing t s).run
    (State.committing_startCommit hop hle hk) hu hturns m hm
  exact ⟨v, hv, hc.op, hc.keyvalid⟩

end Sys2Proof.Machine
end

section
/-! From an empty key buffer to Ready (R234): the pushes, the KEY_COMMIT and its 36 engine steps at the reference
timing (R246). -/

namespace Sys2Proof.Machine

/-! ## A transaction at the reference timing -/

/-- What the ports carry when the host drives `i` and nothing is held back. -/
def drivenInput (i : Instr) : PortInput := { tx := some (encodeBytes i) }

/-- With the engine idle, a cycle that drives `i` does what `i` does. -/
theorem stepWith_drivenInput (t : Tables) {s v : State} {i : Instr} {rest : List PortInput} (hwf : i.wf = true)
    (hop : s.op = .idle) (hbus : s.bus = drivenInput i :: rest)
    (hv : exec i { s with rdata := 0, bus := rest } = .next v) : stepWith t s = .next v := by
  rw [stepWith_of_decode t hbus rfl rfl (decodeOfEncodeIsTheInstruction i hwf) hv]
  exact if_pos (.inl hop)

/-! ## The pushes -/

/-- An idle engine that holds the words of `key` and has no error on record. -/
structure State.KeyLoaded (s : State) (key : List Word) : Prop where
  op : s.op = .idle
  keylen : s.keylen.toNat = key.length
  buffer : s.keyWords = key
  err : s.err = false
  errcode : s.errcode = 0

/-- It does not matter what the ports carry. -/
theorem State.KeyLoaded.ports {s : State} {key : List Word} (h : s.KeyLoaded key) (v : Word)
    (bus : List PortInput) : State.KeyLoaded { s with rdata := v, bus := bus } key :=
  ⟨h.op, h.keylen, h.buffer, h.err, h.errcode⟩

theorem State.keyWords_pushKey {s : State} (h : s.keylen.toNat < 36) (d : Word) :
    (s.pushKey d).keyWords = s.keyWords ++ [d] := by
  have hsucc : (s.keylen + 1).toNat = s.keylen.toNat + 1 := by simp; omega
  rw [State.pushKey_of_lt d h]
  simp only [State.keyWords, hsucc, Vector.toList_set]
  rw [List.take_succ_eq_append_getElem (by simpa using h), List.getElem_set_self, List.take_set_of_le le_rfl]

theorem State.KeyLoaded.pushKey {s : State} {key : List Word} (h : s.KeyLoaded key) (hlt : key.length < 36)
    (d : Word) : (s.pushKey d).KeyLoaded (key ++ [d]) where
  op := by rw [State.pushKey_op, h.op]
  keylen := by
    have hk : s.keylen.toNat < 36 := h.keylen ▸ hlt
    rw [State.pushKey_of_lt d hk, List.length_append, ← h.keylen]
    simp
    omega
  buffer := by rw [State.keyWords_pushKey (h.keylen ▸ hlt), h.buffer]
  err := by rw [State.pushKey_err, h.err]
  errcode := by rw [State.pushKey_errcode, h.errcode]

/-- The cycle of a push, before the cycles `rest` drives. -/
theorem State.KeyLoaded.stepWith_push (t : Tables) {s : State} {key : List Word} {d : Word}
    {rest : List PortInput} (h : s.KeyLoaded key) (hlt : key.length < 36)
    (hbus : s.bus = drivenInput (.wrKeyin d) :: rest) :
    ∃ u, stepWith t s = .next u ∧ u.bus = rest ∧ u.KeyLoaded (key ++ [d]) := by
  have h0 := h.ports 0 rest
  exact ⟨_, stepWith_drivenInput t rfl h.op hbus (exec_wrKeyin_of_idle h0.op d), State.pushKey_bus d _,
    h0.pushKey hlt d⟩

/-- Pushing the words of `more` takes a cycle each, and the run goes on with the cycles after them. -/
theorem State.KeyLoaded.runCycles_push (t : Tables) {rest : List PortInput} (n : Nat) {s : State}
    {key more : List Word} (h : s.KeyLoaded key) (hle : key.length + more.length ≤ 36)
    (hbus : s.bus = (more.map fun d => drivenInput (.wrKeyin d)) ++ rest) :
    ∃ u, runCycles t (more.length + n) s = runCycles t n u ∧ u.bus = rest ∧ u.KeyLoaded (key ++ more) := by
  induction more generalizing s key with
  | nil => exact ⟨s, by rw [List.length_nil, Nat.zero_add], hbus, by rwa [List.append_nil]⟩
  | cons d more ih =>
    rw [List.length_cons] at hle ⊢
    obtain ⟨v, hstep, hvbus, hv⟩ := h.stepWith_push t (by omega) hbus
    obtain ⟨u, hrun, hubus, hu⟩ := ih hv (by rw [List.length_append, List.length_singleton]; omega) hvbus
    refine ⟨u, ?_, hubus, by rwa [List.append_cons]⟩
    rw [Nat.add_right_comm, runCycles, hstep]
    exact hrun

/-! ## The engine alone -/

theorem State.engineStep_keeps_error {t : Tables} {s u : State} (h : s.engineStep t = .next u) :
    u.err = s.err ∧ u.errcode = s.errcode := by
  obtain ⟨-, rfl⟩ | ⟨-, _, rfl⟩ | ⟨-, _, rfl⟩ | ⟨-, _, _, rfl⟩ := State.engineStep_cases h
  · exact ⟨rfl, rfl⟩
  all_goals simp

theorem State.portInput_of_nil {s : State} (hbus : s.bus = []) : s.portInput = {} := by
  rw [State.portInput, hbus, List.headD_nil]

/-- With nothing on the bus, a cycle is at most an engine step. -/
theorem stepWith_keeps_error {t : Tables} {s u : State} (hbus : s.bus = []) (h : stepWith t s = .next u) :
    u.err = s.err ∧ u.errcode = s.errcode := by
  have hp := State.portInput_of_nil hbus
  obtain ⟨hrst, -⟩ | ⟨-, v, -, hv, hcase⟩ := stepWith_cases h
  · simp [hp] at hrst
  rw [hp, hostPart_none] at hv
  cases hv
  obtain ⟨-, rfl⟩ | ⟨-, -, hengine⟩ := hcase
  · exact ⟨rfl, rfl⟩
  · exact State.engineStep_keeps_error (s := s.beginCycle) hengine

theorem runCycles_keeps_error {t : Tables} {n : Nat} {s u : State} (hbus : s.bus = [])
    (h : runCycles t n s = .next u) : u.err = s.err ∧ u.errcode = s.errcode := by
  induction n generalizing s with
  | zero => cases h; exact ⟨rfl, rfl⟩
  | succ n ih =>
    rw [runCycles] at h
    cases hstep : stepWith t s with
    | next v =>
      rw [hstep] at h
      obtain ⟨herr, herrcode⟩ := stepWith_keeps_error hbus hstep
      obtain ⟨huerr, huerrcode⟩ := ih (by rw [stepWith_bus hstep, hbus, List.tail_nil]) h
      exact ⟨huerr.trans herr, huerrcode.trans herrcode⟩
    | fault | refused => rw [hstep] at h; cases h

theorem undisturbedThrough_nil (n : Nat) : UndisturbedThrough [] n :=
  fun _ _ => ⟨rfl, rfl⟩

/-! ## Ready -/

theorem State.KeyLoaded.startCommit_ready (t : Tables) {s : State} {key : List Word} (h : key ≠ [])
    (hload : s.KeyLoaded key) (hle : key.length ≤ 36) (hbus : s.bus = []) :
    ∃ u, runCycles t 36 s.startCommit = .next u ∧ u.Ready key h := by
  obtain rfl := hload.buffer
  obtain ⟨u, hrun, hend⟩ := runCycles_startCommit t (n := 35) h hload.op (hload.keylen ▸ hle)
    (hbus ▸ undisturbedThrough_nil 35) (hbus ▸ by decide) (hbus ▸ rfl)
  obtain ⟨herr, herrcode⟩ := runCycles_keeps_error (s := s.startCommit) hbus hrun
  refine ⟨u, hrun, ?_⟩
  exact {
    length_le := hle
    idle := hend.op
    keyvalid := hend.keyvalid
    schedule := hend.rkey
    keylen := by rw [hend.keylen, hload.keylen]
    buffer := by rw [State.keyWords, hend.mkey, hend.keylen, State.keyWords]
    err := herr.trans hload.err
    errcode := herrcode.trans hload.errcode }

/-- The cycle of the KEY_COMMIT, and the 36 after it. -/
theorem State.KeyLoaded.runCycles_commit (t : Tables) {s : State} {key : List Word} (h : key ≠ [])
    (hload : s.KeyLoaded key) (hle : key.length ≤ 36) (hbus : s.bus = [drivenInput .keyCommit]) :
    ∃ u, runCycles t 37 s = .next u ∧ u.Ready key h := by
  have h0 := hload.ports 0 []
  have hk : s.keylen ≠ 0 := State.keylen_ne_zero (hload.buffer ▸ h)
  have haccept := (exec_keyCommit_of_idle h0.op).trans (congrArg _ (if_neg hk))
  rw [runCycles, stepWith_drivenInput t rfl hload.op hbus haccept]
  exact h0.startCommit_ready t h hle rfl

/-- Settles O40: the pushes load the key, one a cycle, and the commit of a loaded key leaves Ready. -/
theorem pushingAndCommittingAKeyReachesReady : Obligations.PushingAndCommittingAKeyReachesReady := by
  intro t s key h hle hop hlen herr herrcode hbus
  have hempty : s.KeyLoaded [] := ⟨hop, by simp [hlen], by simp [State.keyWords, hlen], herr, herrcode⟩
  obtain ⟨v, hrun, hvbus, hload⟩ := hempty.runCycles_push t 37 (by simpa using hle) hbus
  rw [hrun]
  exact hload.runCycles_commit t h hle hvbus

end Sys2Proof.Machine
end

section
/-! The transform as a sequence of rounds (R145, R146, R156): the inverse laws (R147, R154), the reverse-key law
(R152) and palindromic schedules (R153). -/

namespace Sys2Proof.Machine

/-! ## Rounds -/

/-- Rounds with the keys of a list, the first key first. -/
def roundsWith (round : Word → Block → Block) (ks : List Word) (b : Block) : Block :=
  ks.foldl (fun b k => round k b) b

theorem encBlock_eq_roundsWith (t : Tables) (rk : KeyFile) (b : Block) :
    encBlock t rk b = swapHalves (roundsWith (encRound t) rk.toList b) := rfl

theorem decBlock_eq_roundsWith (t : Tables) (rk : KeyFile) (b : Block) :
    decBlock t rk b = roundsWith (decRound t) rk.reverse.toList (swapHalves b) := by
  rw [Vector.toList_reverse]
  rfl

theorem roundsWith_append_singleton (round : Word → Block → Block) (ks : List Word) (k : Word) (b : Block) :
    roundsWith round (ks ++ [k]) b = round k (roundsWith round ks b) :=
  List.foldl_concat ..

theorem roundsWith_take_succ (round : Word → Block → Block) (keys : KeyFile) (b : Block) {k : Nat} (hk : k < 36) :
    roundsWith round (keys.toList.take (k + 1)) b = round keys[k] (roundsWith round (keys.toList.take k) b) := by
  rw [List.take_succ_eq_append_getElem (by simpa using hk), roundsWith_append_singleton, Vector.getElem_toList]

/-- Dec's rounds, last key first, undo Enc's one after another (R147). -/
theorem roundsWith_decRound_reverse (t : Tables) (ks : List Word) (b : Block) :
    roundsWith (decRound t) ks.reverse (roundsWith (encRound t) ks b) = b := by
  induction ks generalizing b with
  | nil => rfl
  | cons k ks ih =>
    calc roundsWith (decRound t) (k :: ks).reverse (roundsWith (encRound t) ks (encRound t k b))
        _ = decRound t k (roundsWith (decRound t) ks.reverse (roundsWith (encRound t) ks (encRound t k b))) := by
          rw [List.reverse_cons, roundsWith_append_singleton]
        _ = b := by rw [ih, decRound_encRound]

/-- Dec's rounds are Enc's rounds with the halves renamed (R152). -/
theorem roundsWith_decRound_swapHalves (t : Tables) (ks : List Word) (b : Block) :
    roundsWith (decRound t) ks (swapHalves b) = swapHalves (roundsWith (encRound t) ks b) :=
  List.foldl_hom swapHalves fun b k => decRound_swapHalves t k b

/-! ## The laws of Enc and Dec -/

/-- Settles O51: the two final swaps cancel, and then Dec's rounds undo Enc's. -/
theorem decryptionInvertsEncryption : Obligations.DecryptionInvertsEncryption := by
  intro t rk b
  rw [decBlock_eq_roundsWith, encBlock_eq_roundsWith, swapHalves_swapHalves, Vector.toList_reverse,
    roundsWith_decRound_reverse]

/-- Settles O53: with the halves renamed Dec does Enc's rounds, and its input swap is Enc's final swap. -/
theorem decryptionIsEncryptionWithReversedKeys : Obligations.DecryptionIsEncryptionWithReversedKeys := by
  intro t rk b
  rw [decBlock_eq_roundsWith, roundsWith_decRound_swapHalves, encBlock_eq_roundsWith]

theorem encBlock_eq_decBlock_reverse (t : Tables) (rk : KeyFile) (b : Block) :
    encBlock t rk b = decBlock t rk.reverse b := by
  rw [decryptionIsEncryptionWithReversedKeys, Vector.reverse_reverse]

/-- The reverse law (R154) is the inverse law (R147) of the reversed schedule. -/
theorem encBlock_decBlock (t : Tables) (rk : KeyFile) (b : Block) : encBlock t rk (decBlock t rk b) = b := by
  rw [decryptionIsEncryptionWithReversedKeys, encBlock_eq_decBlock_reverse, decryptionInvertsEncryption]

/-- Settles O52: by both laws each of Enc and Dec is the other's inverse. -/
theorem encryptionInvertsDecryption : Obligations.EncryptionInvertsDecryption := by
  intro t rk
  have hdec : Function.LeftInverse (decBlock t rk) (encBlock t rk) := decryptionInvertsEncryption t rk
  have henc : Function.LeftInverse (encBlock t rk) (decBlock t rk) := encBlock_decBlock t rk
  exact ⟨henc, ⟨hdec.injective, henc.surjective⟩, ⟨henc.injective, hdec.surjective⟩⟩

theorem keySchedule_singleton_getElem (k : Word) (h : [k] ≠ []) {i : Nat} (hi : i < 36) :
    (keySchedule [k] h)[i] = k := by
  simp [keySchedule_getElem, Nat.mod_one]

/-- Settles O54: a palindrome is its own reverse in the reverse-key law, and all round keys of a one-word key are
that word. -/
theorem palindromicSchedulesMakeEncAnInvolution : Obligations.PalindromicSchedulesMakeEncAnInvolution := by
  refine ⟨fun t rk b hrev => ?_, fun k h => ?_⟩
  · have heq (b : Block) : decBlock t rk b = encBlock t rk b := by
      rw [decryptionIsEncryptionWithReversedKeys, hrev]
    exact ⟨heq b, by rw [← heq, decryptionInvertsEncryption]⟩
  · ext i hi
    rw [Vector.getElem_reverse, keySchedule_singleton_getElem, keySchedule_singleton_getElem]

end Sys2Proof.Machine
end

section
/-! The ENC and DEC engine step (R148), and the run of an ENCRYPT or DECRYPT under any host, which computes Enc or Dec
of the block at accept (R149, R240, R241). -/

namespace Sys2Proof.Machine

/-- Settles O35: RC names a round key, so the engine step is a round of its direction, and whether it is the
last is the case split of the statement. -/
theorem encAndDecEngineSteps : Obligations.EncAndDecEngineSteps := by
  refine fun t s hr => ⟨fun hop hlast => ?_, fun hop hlast => ?_, fun hop hlast => ?_, fun hop hlast => ?_⟩
  · rw [State.engineStep_enc t hop hr, State.encStep_of_last t _ hlast]
  · rw [State.engineStep_enc t hop hr, State.encStep_of_not_last t _ hlast]
  · rw [State.engineStep_dec t hop hr, State.decStep_of_last t _ hlast]
  · rw [State.engineStep_dec t hop hr, State.decStep_of_not_last t _ hlast]

/-! ## A cipher operation in progress -/

/-- The block in DIN. -/
def State.input (s : State) : Block := { h0 := s.din0, h1 := s.din1 }

/-- The block in L and R. -/
def State.halves (s : State) : Block := { h0 := s.l, h1 := s.r }

/-- The block in DOUT. -/
def State.output (s : State) : Block := { h0 := s.dout0, h1 := s.dout1 }

/-- In `v` a cipher operation `op` accepted in `s` is in progress, with `rc` in RC and `b` in L and R. -/
structure State.Ciphering (s : State) (op : Op) (rc : Nat) (b : Block) (v : State) : Prop where
  op : v.op = op
  rc : v.rc.toNat = rc
  halves : v.halves = b
  rkey : v.rkey = s.rkey
  keyvalid : v.keyvalid = true
  dout0 : v.dout0 = s.dout0
  dout1 : v.dout1 = s.dout1

/-- What a cipher operation accepted in `s` leaves when its result is `b` (R149). -/
structure State.Ciphered (s : State) (b : Block) (u : State) : Prop where
  op : u.op = .idle
  done : u.done = true
  keyvalid : u.keyvalid = true
  rkey : u.rkey = s.rkey
  output : u.output = b

/-- No transaction disturbs the operation (R240). -/
theorem State.Ciphering.transaction {s v u : State} {op : Op} {rc : Nat} {b : Block}
    (h : s.Ciphering op rc b v) (hb : op ≠ .idle) (he : TransactionEffect v.beginCycle u) :
    s.Ciphering op rc b u := by
  obtain ⟨hop, hl, hr, hrc, -, -, -, hkv⟩ := he.keeps_of_busy (s := v.beginCycle) (h.op.trans_ne hb)
  obtain ⟨hrkey, hd0, hd1, -⟩ := he.keeps
  exact {
    op := hop.trans h.op
    rc := (congrArg _ hrc).trans h.rc
    halves := (congrArg₂ Block.mk hl hr).trans h.halves
    rkey := hrkey.trans h.rkey
    keyvalid := hkv.trans h.keyvalid
    dout0 := hd0.trans h.dout0
    dout1 := hd1.trans h.dout1 }

/-! ## The engine steps of the operation -/

section
variable (t : Tables) {s v : State} {rc : Nat} {b : Block}

theorem State.Ciphering.encStep (h : s.Ciphering .enc rc b v) (hlt : rc < 35) :
    ∃ u, v.engineStep t = .next u ∧ s.Ciphering .enc (rc + 1) (encRound t s.rkey[rc] b) u := by
  obtain ⟨hop, rfl, rfl, hrkey, hkv, hd0, hd1⟩ := h
  have hlast : v.rc ≠ 35 := fun hlast => by simp [hlast] at hlt
  obtain ⟨hsucc, -⟩ := rc_succ_toNat hlt.le hlast
  refine ⟨_, State.engineStep_enc t hop (by omega), ?_⟩
  rw [State.encStep_of_not_last t _ hlast]
  simp only [← hrkey]
  exact ⟨hop, hsucc, rfl, hrkey, hkv, hd0, hd1⟩

theorem State.Ciphering.encStep_last (h : s.Ciphering .enc 35 b v) :
    ∃ u, v.engineStep t = .next u ∧ s.Ciphered (swapHalves (encRound t s.rkey[35] b)) u := by
  obtain ⟨hop, hrc, rfl, hrkey, hkv, -, -⟩ := h
  refine ⟨_, State.engineStep_enc t hop (by omega), ?_⟩
  rw [State.encStep_of_last t _ (BitVec.eq_of_toNat_eq hrc)]
  simp only [← hrkey, hrc]
  exact ⟨rfl, rfl, hkv, hrkey, rfl⟩

theorem State.Ciphering.decStep (h : s.Ciphering .dec rc b v) (hpos : 0 < rc) (hlt : rc < 36) :
    ∃ u, v.engineStep t = .next u ∧ s.Ciphering .dec (rc - 1) (decRound t s.rkey[rc] b) u := by
  obtain ⟨hop, rfl, rfl, hrkey, hkv, hd0, hd1⟩ := h
  have hlast : v.rc ≠ 0 := fun hlast => by simp [hlast] at hpos
  have hpred : (v.rc - 1).toNat = v.rc.toNat - 1 := by bv_omega
  refine ⟨_, State.engineStep_dec t hop hlt, ?_⟩
  rw [State.decStep_of_not_last t _ hlast]
  simp only [← hrkey]
  exact ⟨hop, hpred, rfl, hrkey, hkv, hd0, hd1⟩

theorem State.Ciphering.decStep_last (h : s.Ciphering .dec 0 b v) :
    ∃ u, v.engineStep t = .next u ∧ s.Ciphered (decRound t s.rkey[0] b) u := by
  obtain ⟨hop, hrc, rfl, hrkey, hkv, -, -⟩ := h
  refine ⟨_, State.engineStep_dec t hop (by omega), ?_⟩
  rw [State.decStep_of_last t _ (BitVec.eq_of_toNat_eq hrc)]
  simp only [← hrkey, hrc]
  exact ⟨rfl, rfl, hkv, hrkey, rfl⟩

end

/-! ## The run of a cipher operation -/

/-- What distinguishes the two cipher operations accepted in `s`: RC before the engine step that is number `k` from
0, the round that each engine step does, its keys in the order of their use, and how the last one puts the halves
out. -/
structure CipherSteps (t : Tables) (s : State) (op : Op) (rc : Nat → Nat) (round : Word → Block → Block)
    (keys : KeyFile) (out : Block → Block) : Prop where
  busy : op ≠ .idle
  next : ∀ {k : Nat} {b : Block} {v : State} (hk : k < 35), s.Ciphering op (rc k) b v →
    ∃ u, v.engineStep t = .next u ∧ s.Ciphering op (rc (k + 1)) (round keys[k] b) u
  last : ∀ {b : Block} {v : State}, s.Ciphering op (rc 35) b v →
    ∃ u, v.engineStep t = .next u ∧ s.Ciphered (out (round keys[35] b)) u

theorem cipherSteps_enc (t : Tables) (s : State) :
    CipherSteps t s .enc id (encRound t) s.rkey swapHalves where
  busy := by decide
  next hk h := h.encStep t hk
  last h := h.encStep_last t

theorem cipherSteps_dec (t : Tables) (s : State) :
    CipherSteps t s .dec (35 - ·) (decRound t) s.rkey.reverse id where
  busy := by decide
  next hk h := by
    rw [Vector.getElem_reverse]
    exact h.decStep t (by omega) (by omega)
  last h := by
    rw [Vector.getElem_reverse]
    exact h.decStep_last t

section
variable {t : Tables} {s a : State} {op : Op} {rc : Nat → Nat} {round : Word → Block → Block} {keys : KeyFile}
  {out : Block → Block} (hc : CipherSteps t s op rc round keys out) {b : Block}
include hc

/-- After `k` engine steps L and R hold the block after `k` rounds. -/
theorem CipherSteps.operationProgress : OperationProgress t fun k =>
    s.Ciphering op (rc k) (roundsWith round (keys.toList.take k) b) where
  busy h := h.op.trans_ne hc.busy
  transaction h he := h.transaction hc.busy he
  engine h hlt := by
    rw [roundsWith_take_succ round keys b (by omega)]
    exact hc.next hlt h

/-- A cipher operation runs to its end under any host. -/
theorem CipherSteps.run (h0 : s.Ciphering op (rc 0) b a) {n : Nat} (hu : UndisturbedThrough a.bus n)
    (hturns : engineTurns a.bus n = 35) (hstall : (inputAt a.bus n).stall = false) :
    (∃ u, runCycles t (n + 1) a = .next u ∧ s.Ciphered (out (roundsWith round keys.toList b)) u) ∧
    ∀ m ≤ n, ∃ v, runCycles t m a = .next v ∧ v.op = op ∧ v.dout0 = s.dout0 ∧ v.dout1 = s.dout1 := by
  have hP := hc.operationProgress (b := b)
  constructor
  · obtain ⟨w, hw, hrun⟩ := hP.run_last h0 hu hturns hstall
    have hall : keys.toList.take 36 = keys.toList := List.take_of_length_le (by simp)
    rw [hrun, ← hall, roundsWith_take_succ round keys b (by omega)]
    exact hc.last hw
  · intro m hm
    obtain ⟨v, hv, -, h⟩ := hP.run h0 hu hturns m hm
    exact ⟨v, hv, h.op, h.dout0, h.dout1⟩

end

/-- Settles O37: from the accept on every cycle is an ENC in progress, until the 36th engine step, whose crosswise
write of DOUT is Enc's final swap. -/
theorem encryptCommandComputesEnc : Obligations.EncryptCommandComputesEnc := by
  intro t s n hop hkv hu hturns hstall
  obtain ⟨-, -, haccept⟩ := State.next_whenIdle_keyed State.startEncrypt s
  have h0 : s.Ciphering .enc 0 s.input s.startEncrypt := ⟨rfl, rfl, rfl, rfl, hkv, rfl, rfl⟩
  obtain ⟨⟨u, hrun, hend⟩, hbefore⟩ := (cipherSteps_enc t s).run h0 hu hturns hstall
  exact ⟨s.startEncrypt, u, haccept hop hkv, hrun, hend.op, hend.done, hend.keyvalid, hend.rkey,
    hend.output, hbefore⟩

/-- Settles O38: from the accept on every cycle is a DEC in progress, until the 36th engine step; the crosswise
accept is Dec's input swap. -/
theorem decryptCommandComputesDec : Obligations.DecryptCommandComputesDec := by
  intro t s n hop hkv hu hturns hstall
  obtain ⟨-, -, haccept⟩ := State.next_whenIdle_keyed State.startDecrypt s
  have h0 : s.Ciphering .dec 35 (swapHalves s.input) s.startDecrypt := ⟨rfl, rfl, rfl, rfl, hkv, rfl, rfl⟩
  obtain ⟨⟨u, hrun, hend⟩, hbefore⟩ := (cipherSteps_dec t s).run h0 hu hturns hstall
  exact ⟨s.startDecrypt, u, haccept hop hkv, hrun, hend.op, hend.done, hend.keyvalid, hend.rkey,
    hend.output.trans (decBlock_eq_roundsWith t s.rkey s.input).symm, hbefore⟩

end Sys2Proof.Machine
end

section
/-! The NOP and illegal commands (R170, R171, R203), and the register writes other than KEYIN (R172 to R177):
behind the admission of R84 a CMD write acts or records an error; the others change their own register. -/

namespace Sys2Proof.Machine

/-! ## Commands -/

/-- A checked write records BUSY, or acts. -/
theorem State.next_whenIdle (act : State → State) (s : State) :
    let out : Host.Outcome State Fault Refusal := .next (s.whenIdle act)
    (s.op ≠ .idle → out = .next (s.recorded 4)) ∧ (s.op = .idle → out = .next (act s)) :=
  ⟨fun hb => congrArg _ (State.whenIdle_of_busy hb act),
    fun hidle => congrArg _ (State.whenIdle_of_idle hidle act)⟩

/-- Settles O11: behind the admission NOP only sets DONE. -/
theorem nopSetsDone : Obligations.NopSetsDone :=
  ⟨by decide, State.next_whenIdle State.setDone⟩

/-- The word of a CMD write that the check of R84 finds illegal decodes to CMD_ILLEGAL. -/
theorem decodeTx_cmdIllegal {d : Word} (h : cmdReserved d ≠ 0 ∨ 4 < (cmdOpcode d).toNat) :
    decodeTx (0x10#5 ++ d) = .cmdIllegal d := by
  have hgt : 4 < d.toNat := (cmdIllegal_iff d).mp h
  have hd : d ∉ legalCommands := fun hmem => by
    fin_cases hmem <;> simp at hgt
  calc decodeTx (0x10#5 ++ d)
      _ = decodeCmd d := decodeTx_append 0x10#5 d
      _ = .cmdIllegal d := decodeCmd_of_illegal hd

/-- Settles O16: the statement's condition is the check of R84, behind whose admission the error is recorded. -/
theorem illegalCommandsAreRecorded : Obligations.IllegalCommandsAreRecorded :=
  fun _ h => ⟨decodeTx_cmdIllegal h, State.next_whenIdle (State.raiseError .illegalCmd)⟩

/-! ## STATUS and CONFIG -/

theorem State.writeStatus_eq (d : Word) (s : State) :
    s.writeStatus d = { s with
      done := if d.getLsbD 1 then false else s.done
      err := if d.getLsbD 3 then false else s.err
      errcode := if d.getLsbD 3 then 0 else s.errcode } := by
  simp [State.writeStatus, State.clearDone, State.clearError, statusClearsDone, statusClearsErr, Bool.and_comm]

/-- A cycle without reset that ends the operation in progress leaves DONE set, whatever the transaction
beside it clears (R37, R72). -/
theorem stepWith_done_of_completion {t : Tables} {s u : State} (h : stepWith t s = .next u)
    (hr : s.portInput.rst = false) (hb : s.op ≠ .idle) (hidle : u.op = .idle) : u.done = true := by
  obtain ⟨v, he, -, hcase⟩ := stepWith_progress h hr
  obtain ⟨hvop, -⟩ := he.keeps_of_busy (s := s.beginCycle) hb
  have hvb : v.op ≠ .idle := hvop.trans_ne hb
  obtain rfl | ⟨-, -, -, hp⟩ := hcase
  · exact absurd hidle hvb
  · cases hp with
    | goesOn hop => exact absurd (hop.symm.trans hidle) hvb
    | cipherEnds _ _ _ hdone => exact hdone
    | commitEnds _ _ _ _ hdone => exact hdone

/-- Settles O17: the write clears what its bits name, and a completion beside it sets DONE. -/
theorem statusWriteOneToClear : Obligations.StatusWriteOneToClear :=
  ⟨fun d => decodeTx_append 0x11#5 d, fun d s => congrArg _ (s.writeStatus_eq d),
    fun _ _ _ _ _ hb hbus h hidle =>
      stepWith_done_of_completion h (congrArg PortInput.rst (State.portInput_of_bus hbus)) hb hidle⟩

theorem State.configWord_eq_ite (s : State) : s.configWord = if s.ie then 1 else 0 := by
  cases h : s.ie <;> simp [State.configWord, h]

/-- A read changes nothing but the read port, in whichever form its value is known. -/
theorem State.next_readOut_of_eq {s : State} {v w : Word} (h : v = w) :
    (.next (s.readOut v) : Host.Outcome State Fault Refusal) = .next { s with rdata := w } :=
  h ▸ rfl

theorem exec_rdConfig (s : State) : exec .rdConfig s = .next { s with rdata := if s.ie then 1 else 0 } :=
  State.next_readOut_of_eq s.configWord_eq_ite

/-- Settles O18: irq is computed from the IE written, and the read after the write returns it. -/
theorem configWriteSetsEnable : Obligations.ConfigWriteSetsEnable :=
  ⟨fun d => decodeTx_append 0x12#5 d, fun _ _ => ⟨_, rfl, rfl, rfl, exec_rdConfig _⟩⟩

/-! ## DIN and RKSEL -/

/-- Settles O20: a DIN write has no admission and no other effect. -/
theorem dinWritesStore : Obligations.DinWritesStore :=
  ⟨fun d => ⟨decodeTx_append 0x15#5 d, decodeTx_append 0x16#5 d⟩, fun _ _ => ⟨rfl, rfl⟩⟩

/-- Cutting a datum down to six bits and widening it again is masking it. -/
theorem selectorOf_setWidth (d : Word) : (selectorOf d).setWidth 16 = d &&& 0x003F := by
  apply BitVec.eq_of_toNat_eq
  have hlt : d.toNat % 64 < 65536 := (Nat.mod_lt _ (by decide)).trans (by decide)
  have hmask : d.toNat &&& 63 = d.toNat % 64 := Nat.and_two_pow_sub_one_eq_mod d.toNat 6
  simp [selectorOf, hmask, Nat.mod_eq_of_lt hlt]

theorem State.rkdataWord_of_selected {s : State} (hkv : s.keyvalid = true) (h : s.rksel.toNat < 36) :
    s.rkdataWord = s.rkey[s.rksel.toNat] := by
  simp [State.rkdataWord, hkv, h]

theorem State.rkdataWord_of_no_instance {s : State} (hkv : s.keyvalid = false) : s.rkdataWord = 0 := by
  simp [State.rkdataWord, hkv]

theorem State.rkdataWord_of_out_of_range {s : State} (h : 35 < s.rksel.toNat) : s.rkdataWord = 0 := by
  have hnone : s.rkey[s.rksel.toNat]? = none := Vector.getElem?_eq_none h
  simp [State.rkdataWord, hnone]

/-- Settles O21: the selector reads back under its mask, and above 35 it selects no round key. -/
theorem rkselWriteStores : Obligations.RkselWriteStores :=
  ⟨fun d => decodeTx_append 0x19#5 d, fun d _ => ⟨_, rfl, rfl,
    State.next_readOut_of_eq (selectorOf_setWidth d),
    fun h => State.next_readOut_of_eq (State.rkdataWord_of_out_of_range h)⟩⟩

/-! ## Read-only and reserved indices -/

/-- Settles O22: each of the nine writes has its own row, and its meaning is the state as it stands. -/
theorem ignoredWritesDoNothing : Obligations.IgnoredWritesDoNothing :=
  ⟨fun d => ⟨decodeTx_append 0x14#5 d, decodeTx_append 0x17#5 d, decodeTx_append 0x18#5 d,
    decodeTx_append 0x1A#5 d, decodeTx_append 0x1B#5 d, decodeTx_append 0x1C#5 d, decodeTx_append 0x1D#5 d,
    decodeTx_append 0x1E#5 d, decodeTx_append 0x1F#5 d⟩,
    fun _ _ => ⟨rfl, rfl, rfl, rfl, rfl, rfl, rfl, rfl, rfl⟩⟩

end Sys2Proof.Machine
end

section
/-! The register reads other than STATUS and DOUT (R180, R182, R183, R185, R186), and what changes the DIN
registers (R33, R185). -/

namespace Sys2Proof.Machine

/-- Settles O23: the decoder forgets D, and each of the six reads puts 0 out. -/
theorem writeOnlyAndReservedReadZero : Obligations.WriteOnlyAndReservedReadZero :=
  ⟨fun d => ⟨decodeTx_append 0x00#5 d, decodeTx_append 0x03#5 d, decodeTx_append 0x0C#5 d,
    decodeTx_append 0x0D#5 d, decodeTx_append 0x0E#5 d, decodeTx_append 0x0F#5 d⟩,
    fun _ => ⟨rfl, rfl, rfl, rfl, rfl, rfl⟩⟩

/-- Settles O25: the zero-extended bit is 1 or 0. -/
theorem configReadsEnable : Obligations.ConfigReadsEnable :=
  ⟨fun d => decodeTx_append 0x02#5 d, exec_rdConfig⟩

/-- Settles O26: the word is the selected entry of an instance, and in a COMMIT there is no instance. -/
theorem rkdataReadsTheSelectedRoundKey : Obligations.RkdataReadsTheSelectedRoundKey := by
  refine ⟨fun d => decodeTx_append 0x0A#5 d, fun s => ⟨fun hkv h => ?_, ?_, fun hi hop => ?_⟩⟩
  · exact State.next_readOut_of_eq (State.rkdataWord_of_selected hkv (Nat.lt_succ_of_le h))
  · rintro (hkv | h)
    · exact State.next_readOut_of_eq (State.rkdataWord_of_no_instance hkv)
    · exact State.next_readOut_of_eq (State.rkdataWord_of_out_of_range h)
  · obtain ⟨hkv, -⟩ := hi.commit_has_key hop
    exact State.next_readOut_of_eq (State.rkdataWord_of_no_instance hkv)

/-- Settles O29: the value is a constant. -/
theorem roundsReadsThirtySix : Obligations.RoundsReadsThirtySix :=
  ⟨fun d => decodeTx_append 0x0B#5 d, fun _ => rfl⟩

/-! ## Who changes DIN -/

/-- The block in DIN after an instruction, from the one before it. -/
def inputAfter (b : Block) : Instr → Block
  | .wrDin0 d => { b with h0 := d }
  | .wrDin1 d => { b with h1 := d }
  | _ => b

theorem inputAfter_h0 {i : Instr} (h : ∀ d, i ≠ .wrDin0 d) (b : Block) : (inputAfter b i).h0 = b.h0 := by
  cases i with
  | wrDin0 d => exact absurd rfl (h d)
  | _ => rfl

theorem inputAfter_h1 {i : Instr} (h : ∀ d, i ≠ .wrDin1 d) (b : Block) : (inputAfter b i).h1 = b.h1 := by
  cases i with
  | wrDin1 d => exact absurd rfl (h d)
  | _ => rfl

/-- Recording BUSY leaves DIN alone, so it is enough to look at the idle engine. -/
theorem State.whenIdle_input {s : State} {act : State → State} (h : (act s).input = s.input) :
    (s.whenIdle act).input = s.input := by
  by_cases hop : s.op = .idle
  · rw [State.whenIdle_of_idle hop, h]
  · rw [State.whenIdle_of_busy hop]; rfl

theorem exec_input {i : Instr} {s u : State} (h : exec i s = .next u) : u.input = inputAfter s.input i := by
  cases i <;> cases h
  case nop | keyClear | cmdIllegal => exact State.whenIdle_input rfl
  case keyCommit | encrypt | decrypt => exact State.whenIdle_input (by split <;> rfl)
  case wrKeyin d => exact State.whenIdle_input (congrArg₂ Block.mk (s.pushKey_din0 d) (s.pushKey_din1 d))
  all_goals rfl

theorem State.engineStep_input {t : Tables} {s u : State} (h : s.engineStep t = .next u) : u.input = s.input := by
  obtain ⟨-, rfl⟩ | ⟨-, _, rfl⟩ | ⟨-, _, rfl⟩ | ⟨-, _, _, rfl⟩ := State.engineStep_cases h
  · rfl
  all_goals simp [State.input]

/-! ## KEYLEN at its bound -/

/-- A KEYIN write to a full buffer stores no word: it is discarded, or raises BUSY (R122). -/
theorem exec_wrKeyin_of_full {s u : State} {d : Word} (hfull : s.keylen = 36)
    (h : exec (.wrKeyin d) s = .next u) : u.keylen = 36 := by
  obtain ⟨-, hpush⟩ := keyinPushesOneWord
  obtain ⟨hbusy, -, hdiscard⟩ := hpush d s
  by_cases hop : s.op = .idle
  · cases (hdiscard hop hfull).symm.trans h
    exact hfull
  · cases (hbusy hop).symm.trans h
    exact hfull

/-- Settles O28: a read puts its register out, DIN changes as `exec_input` and `State.engineStep_input` say,
and the bound of KEYLEN is the invariant's. -/
theorem operandAndCountReads : Obligations.OperandAndCountReads := by
  refine ⟨fun d => ⟨decodeTx_append 0x05#5 d, decodeTx_append 0x06#5 d, decodeTx_append 0x04#5 d,
    decodeTx_append 0x09#5 d⟩, fun s => ⟨rfl, rfl, ?_, ?_, fun i u h => ⟨fun hi => ?_, fun hi => ?_⟩,
    fun t u h => ?_, fun hfull d u => exec_wrKeyin_of_full hfull, State.Inv.keylen_le⟩⟩
  · exact State.next_readOut_of_eq (BitVec.ofNat_toNat 16 s.keylen).symm
  · exact State.next_readOut_of_eq (BitVec.ofNat_toNat 16 s.rksel).symm
  · exact (congrArg Block.h0 (exec_input h)).trans (inputAfter_h0 hi s.input)
  · exact (congrArg Block.h1 (exec_input h)).trans (inputAfter_h1 hi s.input)
  · have hinput := State.engineStep_input h
    exact ⟨congrArg Block.h0 hinput, congrArg Block.h1 hinput⟩

end Sys2Proof.Machine
end

section
/-! The record of an error (R202 to R206), and what lowers irq (R207). -/

namespace Sys2Proof.Machine

/-! ## The record of an error -/

/-- What an instruction does to ERR and ERRCODE, given the error that its checks find: the error is recorded and
nothing else happens, or the record stands unless the instruction is the STATUS write, which clears it. -/
inductive ErrorEffect (s : State) (i : Instr) : Option (BitVec 4) → State → Prop where
  | raised (code : BitVec 4) : ErrorEffect s i (some code) (s.recorded code)
  | quiet (u : State) (h : (u.err = s.err ∧ u.errcode = s.errcode) ∨ ∃ d, i = .wrStatus d) :
      ErrorEffect s i none u

/-- BUSY is the first check (R206), so the idle engine decides what the others find. -/
theorem ErrorEffect.whenIdle {s : State} {i : Instr} {act : State → State} {found : Option (BitVec 4)}
    (h : s.op = .idle → ErrorEffect s i found (act s)) :
    ErrorEffect s i (if s.op ≠ .idle then some 4 else found) (s.whenIdle act) := by
  by_cases hop : s.op = .idle
  · rw [State.whenIdle_of_idle hop, if_neg (not_not_intro hop)]; exact h hop
  · rw [State.whenIdle_of_busy hop, if_pos hop]; exact .raised 4

theorem exec_errorEffect {i : Instr} {s u : State} (h : exec i s = .next u) :
    ErrorEffect s i (errorOf i s) u := by
  cases i <;> cases h
  case nop | keyClear => exact .whenIdle fun _ => .quiet _ (.inl ⟨rfl, rfl⟩)
  case keyCommit =>
    refine .whenIdle fun _ => ?_
    split
    · exact .raised 1
    · exact .quiet _ (.inl ⟨rfl, rfl⟩)
  case encrypt | decrypt =>
    refine .whenIdle fun _ => ?_
    split
    · exact .quiet _ (.inl ⟨rfl, rfl⟩)
    · exact .raised 2
  case cmdIllegal => exact .whenIdle fun _ => .raised 3
  case wrKeyin d => exact .whenIdle fun _ => .quiet _ (.inl ⟨s.pushKey_err d, s.pushKey_errcode d⟩)
  case wrStatus d => exact .quiet _ (.inr ⟨d, rfl⟩)
  all_goals exact .quiet _ (.inl ⟨rfl, rfl⟩)

/-- Settles O32: every transaction answers a next state, and `exec_errorEffect` says what it records. -/
theorem errorsArePreciseAndTheFirstIsKept : Obligations.ErrorsArePreciseAndTheFirstIsKept := by
  intro i s _
  obtain ⟨u, hexec, -⟩ := exec_effect i s
  have heffect := exec_errorEffect hexec
  rw [hexec]
  generalize errorOf i s = found at heffect ⊢
  cases heffect with
  | raised code => exact ⟨fun _ hcode => Option.some.inj hcode ▸ rfl, nofun⟩
  | quiet _ hkeeps => exact ⟨nofun, fun _ => ⟨u, rfl, hkeeps⟩⟩

theorem exec_lowers_err {i : Instr} {s u : State} (h : exec i s = .next u) (hs : s.err = true)
    (hu : u.err = false) : ∃ d, i = .wrStatus d ∧ d.getLsbD 3 = true := by
  have heffect := exec_errorEffect h
  generalize errorOf i s = found at heffect
  cases heffect with
  | raised => cases hu
  | quiet _ hkeeps =>
    obtain ⟨herr, -⟩ | ⟨d, rfl⟩ := hkeeps
    · simp [herr, hs] at hu
    · cases h
      exact ⟨d, rfl, by simpa [hs, statusClearsErr] using hu⟩

/-! ## irq -/

theorem State.irq_iff (s : State) : s.irq = true ↔ s.ie = true ∧ (s.done = true ∨ s.err = true) := by
  simp [State.irq]

/-- Where irq falls, one of the three flags it is computed from does. -/
theorem State.flag_lowered_of_irq {s u : State} (hs : s.irq = true) (hu : u.irq = false) :
    (s.ie = true ∧ u.ie = false) ∨ (s.done = true ∧ u.done = false) ∨ (s.err = true ∧ u.err = false) := by
  obtain ⟨hie, hflag⟩ := s.irq_iff.mp hs
  cases huie : u.ie with
  | false => exact .inl ⟨hie, rfl⟩
  | true =>
    have hclear : u.done = false ∧ u.err = false := by simpa [State.irq, huie] using hu
    exact .inr (hflag.imp (⟨·, hclear.1⟩) (⟨·, hclear.2⟩))

/-- Recording BUSY leaves IE alone, so it is enough to look at the idle engine. -/
theorem State.whenIdle_ie {s : State} {act : State → State} (h : (act s).ie = s.ie) :
    (s.whenIdle act).ie = s.ie := by
  by_cases hop : s.op = .idle
  · rw [State.whenIdle_of_idle hop, h]
  · rw [State.whenIdle_of_busy hop]; rfl

theorem exec_ie {i : Instr} {s u : State} (h : exec i s = .next u) :
    u.ie = s.ie ∨ ∃ d, i = .wrConfig d ∧ u.ie = d.getLsbD 0 := by
  cases i <;> cases h
  case nop | keyClear | cmdIllegal => exact .inl (State.whenIdle_ie rfl)
  case keyCommit | encrypt | decrypt => exact .inl (State.whenIdle_ie (by split <;> rfl))
  case wrKeyin d => exact .inl (State.whenIdle_ie (s.pushKey_ie d))
  case wrConfig d => exact .inr ⟨d, rfl, rfl⟩
  all_goals exact .inl rfl

/-- A transaction that lowers irq lowers IE, DONE or ERR. -/
theorem exec_lowers_irq {i : Instr} {s u : State} (h : exec i s = .next u) (hs : s.irq = true)
    (hu : u.irq = false) : MayLowerIrq i s.op u.op := by
  obtain ⟨hie, huie⟩ | ⟨hdone, hudone⟩ | ⟨herr, huerr⟩ := State.flag_lowered_of_irq hs hu
  · obtain hkeeps | ⟨d, rfl, hbit⟩ := exec_ie h
    · simp [hkeeps, hie] at huie
    · exact .inr (.inl ⟨d, rfl, hbit ▸ huie⟩)
  · obtain ⟨d, rfl, hbit⟩ | haccept := (exec_flagEffect h).lowers_done hdone hudone
    · exact .inl ⟨d, rfl, .inl hbit⟩
    · exact .inr (.inr haccept)
  · obtain ⟨d, rfl, hbit⟩ := exec_lowers_err h herr huerr
    exact .inl ⟨d, rfl, .inr hbit⟩

theorem State.engineStep_ie {t : Tables} {s u : State} (h : s.engineStep t = .next u) : u.ie = s.ie := by
  obtain ⟨-, rfl⟩ | ⟨-, _, rfl⟩ | ⟨-, _, rfl⟩ | ⟨-, _, _, rfl⟩ := State.engineStep_cases h
  · rfl
  all_goals simp

/-- An engine step leaves IE and ERR alone and can only set DONE. -/
theorem State.engineStep_keeps_irq {t : Tables} {s u : State} (hb : s.op ≠ .idle)
    (h : s.engineStep t = .next u) (hs : s.irq = true) : u.irq = true := by
  obtain ⟨hie, hflag⟩ := s.irq_iff.mp hs
  obtain ⟨herr, -⟩ := State.engineStep_keeps_error h
  have hdone (hd : s.done = true) : u.done = true := by
    cases State.engineStep_progress hb h with
    | goesOn _ _ hdone => exact hdone.trans hd
    | cipherEnds _ _ _ hdone => exact hdone
    | commitEnds _ _ _ _ hdone => exact hdone
  exact u.irq_iff.mpr ⟨(State.engineStep_ie h).trans hie, hflag.imp hdone herr.trans⟩

/-- The host's part of a cycle that lowers irq does so itself; an engine step beside it finds the engine
busy, so the transaction was no accept. -/
theorem stepWith_lowers_irq {t : Tables} {s u : State} (h : stepWith t s = .next u) (hs : s.irq = true)
    (hu : u.irq = false) : s.portInput.rst = true ∨ ∃ bytes i, s.portInput.tx = some bytes ∧
      decode bytes = .ok i ∧ MayLowerIrq i s.op u.op := by
  obtain ⟨hrst, -⟩ | ⟨-, v, he, hhost, hcase⟩ := stepWith_cases h
  · exact .inl hrst
  have hv : v.irq = false ∧ (s.op = .idle → u.op = v.op) := by
    obtain ⟨-, rfl⟩ | ⟨hb, -, hengine⟩ := hcase
    · exact ⟨hu, fun _ => rfl⟩
    · obtain ⟨hvop, -⟩ := he.keeps_of_busy (s := s.beginCycle) hb
      refine ⟨Bool.eq_false_iff.mpr fun hv => ?_, fun hop => absurd hop hb⟩
      simp [State.engineStep_keeps_irq (hvop.trans_ne hb) hengine hv] at hu
  obtain ⟨hvirq, hop⟩ := hv
  have hsirq : s.beginCycle.irq = true := hs
  obtain ⟨-, rfl⟩ | ⟨bytes, i, htx, hd, hexec⟩ := hostPart_cases hhost
  · simp [hsirq] at hvirq
  · refine .inr ⟨bytes, i, htx, hd, (exec_lowers_irq hexec hsirq hvirq).imp_right (.imp_right ?_)⟩
    rintro ⟨hidle, hbusy, hi⟩
    exact ⟨hidle, (hop hidle).trans_ne hbusy, hi⟩

/-- Settles O33: irq falls by reset, or in the transaction with one of its three flags. -/
theorem onlyClearsAndAcceptsLowerIrq : Obligations.OnlyClearsAndAcceptsLowerIrq :=
  ⟨fun _ _ _ => exec_lowers_irq, fun _ _ _ => stepWith_lowers_irq⟩

end Sys2Proof.Machine
end

section
/-! Every operation ends (R210): the engine steps that remain of an operation, and a run of them to its end. -/

namespace Sys2Proof.Machine

/-- How many engine steps remain of the operation in progress: DEC counts RC down, ENC and COMMIT count it up. -/
def State.stepsLeft (s : State) : Nat := if s.op = .dec then s.rc.toNat + 1 else 36 - s.rc.toNat

theorem State.stepsLeft_of_dec {s : State} (h : s.op = .dec) : s.stepsLeft = s.rc.toNat + 1 := if_pos h

theorem State.stepsLeft_of_ne_dec {s : State} (h : s.op ≠ .dec) : s.stepsLeft = 36 - s.rc.toNat := if_neg h

theorem State.Inv.stepsLeft_ne_zero {s : State} (h : s.Inv) (hb : s.op ≠ .idle) : s.stepsLeft ≠ 0 := by
  have hle := h.rc_le hb
  unfold State.stepsLeft
  split <;> omega

/-- One step of a count of RC up. -/
theorem State.stepsLeft_of_rc_succ {s u : State} (hdec : s.op ≠ .dec) (hop : u.op = s.op) (hrc : u.rc = s.rc + 1)
    (hle : s.rc.toNat ≤ 35) (hlast : s.rc ≠ 35) : s.stepsLeft = u.stepsLeft + 1 := by
  obtain ⟨hsucc, hle'⟩ := rc_succ_toNat hle hlast
  rw [State.stepsLeft_of_ne_dec hdec, State.stepsLeft_of_ne_dec (hop.trans_ne hdec), hrc, hsucc]
  omega

/-- One step of a count of RC down. -/
theorem State.stepsLeft_of_rc_pred {s u : State} (hdec : s.op = .dec) (hop : u.op = s.op) (hrc : u.rc = s.rc - 1)
    (hlast : s.rc ≠ 0) : s.stepsLeft = u.stepsLeft + 1 := by
  rw [State.stepsLeft_of_dec hdec, State.stepsLeft_of_dec (hop.trans hdec), hrc]
  bv_omega

/-- An engine step of an operation is the last that remains and ends it, or leaves one fewer. -/
theorem State.Inv.engineStep_stepsLeft {t : Tables} {s u : State} (h : s.Inv) (hb : s.op ≠ .idle)
    (hengine : s.engineStep t = .next u) :
    (s.stepsLeft = 1 ∧ u.op = .idle ∧ u.done = true ∧ u.keyvalid = true) ∨
      (u.op = s.op ∧ s.stepsLeft = u.stepsLeft + 1) := by
  have hle := h.rc_le hb
  obtain ⟨hop, -⟩ | ⟨hop, _, rfl⟩ | ⟨hop, _, rfl⟩ | ⟨hop, _, _, rfl⟩ := State.engineStep_cases hengine
  · exact absurd hop hb
  · by_cases hlast : s.rc = 35
    · rw [State.encStep_of_last _ _ hlast]
      exact .inl ⟨by simp [State.stepsLeft, hop, hlast], rfl, rfl, h.cipher_has_key (.inl hop)⟩
    · rw [State.encStep_of_not_last _ _ hlast]
      exact .inr ⟨rfl, State.stepsLeft_of_rc_succ (by simp [hop]) rfl rfl hle hlast⟩
  · by_cases hlast : s.rc = 0
    · rw [State.decStep_of_last _ _ hlast]
      exact .inl ⟨by simp [State.stepsLeft, hop, hlast], rfl, rfl, h.cipher_has_key (.inr hop)⟩
    · rw [State.decStep_of_not_last _ _ hlast]
      exact .inr ⟨rfl, State.stepsLeft_of_rc_pred hop rfl rfl hlast⟩
  · by_cases hlast : s.rc = 35
    · rw [State.commitStep_of_last _ hlast]
      exact .inl ⟨by simp [State.stepsLeft, hop, hlast], rfl, rfl, rfl⟩
    · rw [State.commitStep_of_not_last _ hlast]
      exact .inr ⟨rfl, State.stepsLeft_of_rc_succ (by simp [hop]) rfl rfl hle hlast⟩

theorem engineSteps_of_next {t : Tables} {s v : State} (h : s.engineStep t = .next v) (n : Nat) :
    engineSteps t (n + 1) s = engineSteps t n v := by
  rw [engineSteps, h]

/-- The operation that `s` is in ends after exactly `n` engine steps, with DONE and KEYVALID set and no error. -/
def State.EndsAfter (t : Tables) (s : State) (n : Nat) : Prop :=
  ∃ u, engineSteps t n s = .next u ∧
    u.op = .idle ∧ u.done = true ∧ u.keyvalid = true ∧ u.err = s.err ∧ u.errcode = s.errcode ∧
    ∀ m < n, ∃ v, engineSteps t m s = .next v ∧ v.op = s.op ∧ v.err = s.err ∧ v.errcode = s.errcode

theorem State.EndsAfter.one {t : Tables} {s u : State} (hengine : s.engineStep t = .next u) (hop : u.op = .idle)
    (hdone : u.done = true) (hkv : u.keyvalid = true) : s.EndsAfter t 1 := by
  obtain ⟨herr, hcode⟩ := State.engineStep_keeps_error hengine
  refine ⟨u, engineSteps_of_next hengine 0, hop, hdone, hkv, herr, hcode, fun m hm => ?_⟩
  obtain rfl := Nat.lt_one_iff.mp hm
  exact ⟨s, rfl, rfl, rfl, rfl⟩

theorem State.EndsAfter.succ {t : Tables} {s v : State} {n : Nat} (hengine : s.engineStep t = .next v)
    (hop : v.op = s.op) (h : v.EndsAfter t n) : s.EndsAfter t (n + 1) := by
  obtain ⟨u, hrun, huop, hdone, hkv, hu⟩ := h
  obtain ⟨herr, hcode⟩ := State.engineStep_keeps_error hengine
  rw [herr, hcode, hop] at hu
  obtain ⟨huerr, hucode, hbefore⟩ := hu
  refine ⟨u, (engineSteps_of_next hengine n).trans hrun, huop, hdone, hkv, huerr, hucode, fun m hm => ?_⟩
  cases m with
  | zero => exact ⟨s, rfl, rfl, rfl, rfl⟩
  | succ m =>
    rw [engineSteps_of_next hengine]
    exact hbefore m (Nat.lt_of_succ_lt_succ hm)

theorem State.Inv.endsAfter (t : Tables) {n : Nat} {s : State} (h : s.Inv) (hb : s.op ≠ .idle)
    (hleft : s.stepsLeft = n) : s.EndsAfter t n := by
  induction n generalizing s with
  | zero => exact absurd hleft (h.stepsLeft_ne_zero hb)
  | succ n ih =>
    obtain ⟨v, hengine⟩ := h.engineStep_next t
    obtain ⟨hone, hop, hdone, hkv⟩ | ⟨hop, hsucc⟩ := h.engineStep_stepsLeft hb hengine
    · rw [← hleft, hone]
      exact .one hengine hop hdone hkv
    · have hrest : v.stepsLeft = n := Nat.succ.inj (hsucc.symm.trans hleft)
      exact .succ hengine hop (ih (h.engineStep hengine) (hop.trans_ne hb) hrest)

/-- Settles O36: by induction on the engine steps that remain, each of which keeps the invariant. -/
theorem everyOperationEnds : Obligations.EveryOperationEnds :=
  fun t _ h hb => h.endsAfter t hb rfl

end Sys2Proof.Machine
end

section
/-! Reset (R230), the operands of the running operation (R240), and the end of a host program's run (R248,
R249). -/

namespace Sys2Proof.Machine

/-! ## Reset -/

/-- Settles O9: a cycle with `rst` is the reset edge, which gives the values of the reset state. -/
theorem resetWinsOverTransactionAndEngineStep : Obligations.ResetWinsOverTransactionAndEngineStep :=
  fun t _ _ _ hbus hr => ⟨_, stepWith_of_rst t ((State.portInput_of_bus hbus).symm ▸ hr), resetValues⟩

/-! ## A transaction while the engine is busy -/

theorem exec_cmdWrite_of_busy {s : State} (hb : s.op ≠ .idle) (d : Word) :
    exec (decodeTx (0x10#5 ++ d)) s = .next (s.recorded 4) :=
  calc exec (decodeTx (0x10#5 ++ d)) s
    _ = exec (decodeCmd d) s := congrArg (exec · s) (decodeTx_append 0x10#5 d)
    _ = .next (s.writeCmd d) := exec_decodeCmd d s
    _ = .next (s.recorded 4) := congrArg _ (if_pos hb)

theorem exec_keyinWrite_of_busy {s : State} (hb : s.op ≠ .idle) (d : Word) :
    exec (decodeTx (0x13#5 ++ d)) s = .next (s.recorded 4) :=
  calc exec (decodeTx (0x13#5 ++ d)) s
    _ = exec (.wrKeyin d) s := congrArg (exec · s) (decodeTx_append 0x13#5 d)
    _ = .next (s.recorded 4) := congrArg _ (State.whenIdle_of_busy hb _)

/-- Settles O42: every transaction answers one of the effects, which while busy leave the engine alone, and the
admission turns a CMD or KEYIN write into the record of BUSY. -/
theorem operandsAreFrozenWhileBusy : Obligations.OperandsAreFrozenWhileBusy := by
  intro i s hb
  obtain ⟨u, hu, he⟩ := exec_effect i s
  obtain ⟨hop, hl, hr, hrc, hkp, hmkey, hkeylen, hkv⟩ := he.keeps_of_busy hb
  obtain ⟨hrkey, hd0, hd1, -⟩ := he.keeps
  refine ⟨⟨u, hu, hl, hr, hrc, hkp, hrkey, hmkey, hkeylen, hop, hkv, hd0, hd1⟩, ?_⟩
  rintro ⟨d, rfl | rfl⟩
  · exact exec_cmdWrite_of_busy hb d
  · exact exec_keyinWrite_of_busy hb d

/-! ## A cycle in which the host issues nothing -/

theorem State.Inv.stepsLeft_le {s : State} (h : s.Inv) (hb : s.op ≠ .idle) : s.stepsLeft ≤ 36 := by
  have hle := h.rc_le hb
  unfold State.stepsLeft
  split <;> omega

theorem State.Inv.present {s : State} (h : s.Inv) (p : PortInput) : (s.present p).Inv :=
  h.hostSide h.errCoded

/-- A cycle of a busy engine in which the host issues nothing ends the operation, or takes one of the engine
steps that remain unless it is held back. -/
theorem State.Inv.silentCycle {s : State} (h : s.Inv) (hb : s.op ≠ .idle) (t : Tables) (stall : Bool) :
    ∃ u, stepWith t (s.present { stall := stall }) = .next u ∧ u.Inv ∧
      (u.op ≠ .idle → s.stepsLeft = u.stepsLeft + if stall then 0 else 1) := by
  have hinv := h.present { stall := stall }
  have hstep := cycleWithoutTransaction t (s.present { stall := stall }) rfl rfl
  cases stall with
  | true =>
    rw [if_pos (.inr rfl)] at hstep
    exact ⟨_, hstep, stepKeepsTheInvariant t _ _ hinv hstep, fun _ => rfl⟩
  | false =>
    rw [if_neg (by simp [State.portInput, hb])] at hstep
    obtain ⟨u, hengine⟩ := hinv.beginCycle.engineStep_next t
    refine ⟨u, hstep.trans hengine, hinv.beginCycle.engineStep hengine, fun hu => ?_⟩
    obtain ⟨-, hidle, -⟩ | ⟨-, hsucc⟩ := hinv.beginCycle.engineStep_stepsLeft hb hengine
    · exact absurd hidle hu
    · exact hsucc

/-! ## The end of a host program's run -/

theorem HostRun.final_eq_false_iff {h : HostRun} (hh : h.halted = true) :
    h.final = false ↔ h.machine.op ≠ .idle := by
  simp [HostRun.final, hh, State.busy]

/-- A bound on the cycles that a run which has ended lets pass: those its plan may hold back, and one for each
engine step that remains. -/
def HostRun.cyclesLeft (h : HostRun) : Nat := h.plan.length + h.machine.stepsLeft

/-- A run that has ended over a state of the invariant, as it is in every step to its final one. -/
structure HostRun.Ended (h : HostRun) : Prop where
  inv : h.machine.Inv
  halted : h.halted = true

theorem HostRun.Ended.cyclesLeft_le {h : HostRun} (he : h.Ended) (hf : h.final = false) :
    h.cyclesLeft ≤ h.plan.length + 36 :=
  Nat.add_le_add_left (he.inv.stepsLeft_le ((HostRun.final_eq_false_iff he.halted).mp hf)) _

theorem HostRun.Ended.cyclesLeft_ne_zero {h : HostRun} (he : h.Ended) (hf : h.final = false) :
    h.cyclesLeft ≠ 0 := by
  have := he.inv.stepsLeft_ne_zero ((HostRun.final_eq_false_iff he.halted).mp hf)
  unfold HostRun.cyclesLeft
  omega

/-- A run that lets a cycle pass is the same run over the machine's next state. -/
theorem HostRun.pass_of_next {t : Tables} {h : HostRun} {stall : Bool} {u : State}
    (hu : stepWith t (h.machine.present { stall := stall }) = .next u) :
    h.pass t stall = .next { h with machine := u } := by
  rw [HostRun.pass, HostRun.cycle, hu]

/-- The step of an ended run that is not final drops an entry of the plan that holds the engine back, or takes
an engine step; if that does not make the run final, fewer cycles are left. -/
theorem HostRun.Ended.step {h : HostRun} (he : h.Ended) (hf : h.final = false) (t : Tables) :
    ∃ h', h.step t = .next h' ∧ h'.Ended ∧ h'.reads = h.reads ∧
      (h'.final = false → h'.cyclesLeft < h.cyclesLeft) := by
  have hb := (HostRun.final_eq_false_iff he.halted).mp hf
  obtain ⟨u, hu, hinv, hleft⟩ := he.inv.silentCycle hb t (h.plan.head?.any HostSlot.stall)
  have hended : HostRun.Ended { h with plan := h.plan.tail, machine := u } := ⟨hinv, he.halted⟩
  refine ⟨_, (HostRun.step_of_ended t he.halted hf).trans (HostRun.pass_of_next hu), hended, rfl, fun hf' => ?_⟩
  have hleft := hleft ((HostRun.final_eq_false_iff hended.halted).mp hf')
  unfold HostRun.cyclesLeft
  cases hplan : h.plan with
  | nil =>
    have hleft : h.machine.stepsLeft = u.stepsLeft + 1 := by simpa [hplan] using hleft
    simp only [List.tail_nil, List.length_nil]
    omega
  | cons slot plan =>
    simp only [List.tail_cons, List.length_cons]
    omega

theorem hostSteps_of_next {t : Tables} {h h' : HostRun} (hstep : h.step t = .next h') (n : Nat) :
    hostSteps t (n + 1) h = hostSteps t n h' := by
  rw [hostSteps, hstep]

theorem HostRun.Ended.becomesFinal (t : Tables) {n : Nat} {h : HostRun} (he : h.Ended)
    (hle : h.final = false → h.cyclesLeft ≤ n) :
    ∃ m ≤ n, ∃ u, hostSteps t m h = .next u ∧ u.final = true ∧ u.reads = h.reads := by
  induction n generalizing h with
  | zero =>
    have hf : h.final = true := Bool.of_not_eq_false fun hf =>
      he.cyclesLeft_ne_zero hf (Nat.le_zero.mp (hle hf))
    exact ⟨0, le_rfl, h, rfl, hf, rfl⟩
  | succ n ih =>
    cases hf : h.final with
    | true => exact ⟨0, Nat.zero_le _, h, rfl, hf, rfl⟩
    | false =>
      obtain ⟨h', hstep, he', hreads, hlt⟩ := he.step hf t
      obtain ⟨m, hm, u, hrun, hfinal, hureads⟩ := ih he' fun hf' =>
        Nat.le_of_lt_succ ((hlt hf').trans_le (hle hf))
      exact ⟨m + 1, Nat.succ_le_succ hm, u, (hostSteps_of_next hstep m).trans hrun, hfinal, hureads.trans hreads⟩

/-- Settles O41: each step of an ended run leaves fewer cycles, of which there are at most the plan's length and
one for each of the 36 engine steps. -/
theorem endedHostRunBecomesFinal : Obligations.EndedHostRunBecomesFinal :=
  fun t _ hinv hh => HostRun.Ended.becomesFinal t ⟨hinv, hh⟩ (HostRun.Ended.cyclesLeft_le ⟨hinv, hh⟩)

end Sys2Proof.Machine
end
